-- ==== Sys2Proof/Word.lean ====
section
/-! DEFINITION. The word types of the block: an 8-bit register value or address (R7, R42) and the 32-bit
frequency (R7, R26). -/

namespace Sys2Proof

/-- A register value, a register address, or one byte of a frame (R7, R40). -/
abbrev Byte := BitVec 8

/-- An unsigned 32-bit frequency in Hz (R7, R26). -/
abbrev Hz32 := BitVec 32

end Sys2Proof
end

