-- ==== Sys2Proof/Syntax.lean ====
section
/-! DEFINITION. The host commands of R61, one constructor per row of spec/opcode_table.json. The arguments are the
frame's fields as R61 lays them out; a value outside its stated range is a term too, since the command itself raises
`BadArgument` for it, after the readiness check (R205, R211, log entry 10). -/

namespace Sys2Proof

/-- A host command (R61). -/
inductive Instr where
  /-- 0x01 `INIT id, group, freq` (R170). -/
  | init (id group : Byte) (freq : Hz32)
  /-- 0x02 `SEND`: the header's two fields and the payload, whose length is the `len` byte (R172). -/
  | send (flags : BitVec 2) (destId : BitVec 6) (payload : List Byte)
  /-- 0x03 `RECEIVE len` (R173). -/
  | receive (len : Byte)
  /-- 0x04 `GETACK len` (R174). -/
  | getAck (len : Byte)
  /-- 0x05 `READACK len` (R175). -/
  | readAck (len : Byte)
  /-- 0x06 `TXPOWER dBm`, a signed byte (R151). -/
  | txPower (dBm : Byte)
  /-- 0x07 `ADJUSTPOW margin, target`, signed bytes (R152). -/
  | adjustPow (margin target : Byte)
  /-- 0x08 `ADJUSTFREQ` (R153). -/
  | adjustFreq
  /-- 0x09 `SLEEP` (R101). -/
  | sleep
  /-- 0x0A `ADDINFO` (R155). -/
  | addInfo
  /-- 0x0B `MODEREADY` (R103). -/
  | modeReady
  /-- 0x10 `RD_RSSI` (R177). -/
  | rdRssi
  /-- 0x11 `RD_FE` (R177). -/
  | rdFe
  /-- 0x12 `RD_LNA` (R177). -/
  | rdLna
  /-- 0x13 `RD_MARGIN` (R177). -/
  | rdMargin
  /-- 0x14 `RD_FREQ` (R177). -/
  | rdFreq
  /-- 0x15 `RD_TXPOW` (R177). -/
  | rdTxPow
  deriving DecidableEq, Repr

end Sys2Proof
end

