-- ==== Sys2Proof/WellFormed.lean ====
section
/-! DEFINITION. The ranges R61 and R63 state for the arguments of a command. -/

namespace Sys2Proof

/-- Every argument is in its stated range (R63): `INIT` id has bits 7:6 clear, `SEND` len is at most 62, the buffer
size of `RECEIVE`, `GETACK` and `READACK` is at least 2. -/
def Instr.wellFormed : Instr → Bool
  | .init id _ _ => id.toNat ≤ 63
  | .send _ _ payload => payload.length ≤ 62
  | .receive len => 2 ≤ len.toNat
  | .getAck len => 2 ≤ len.toNat
  | .readAck len => 2 ≤ len.toNat
  | .txPower _ => true
  | .adjustPow _ _ => true
  | .adjustFreq => true
  | .sleep => true
  | .addInfo => true
  | .modeReady => true
  | .rdRssi => true
  | .rdFe => true
  | .rdLna => true
  | .rdMargin => true
  | .rdFreq => true
  | .rdTxPow => true

/-- The command fits a frame of R61: only `SEND` carries a list, and its `len` is one byte. Every command the decoder
answers is of this kind, a well-formed one among them. -/
def Instr.encodable : Instr → Bool
  | .send _ _ payload => payload.length ≤ 255
  | _ => true

end Sys2Proof
end

