-- ==== Sys2Proof/Decode.lean ====
section
/-! DEFINITION. The command frames of R60 and R61: the decoder of the byte stream the host puts on the command port,
the encoder, and the opcode table's numbering of a frame's bits (`decodeTableWord`). -/

namespace Sys2Proof

/-- What the command port delivers from the bytes the host has sent (R60, R61, R63). -/
inductive Decoded where
  /-- A complete frame of a listed opcode, and the bytes after it. -/
  | command (i : Instr) (rest : List Byte)
  /-- An opcode byte that R61 does not list (R63), and the bytes after it (log entry 9). -/
  | illegal (op : Byte) (rest : List Byte)
  /-- No frame yet: "A frame shorter than its length is not a command" (R61). -/
  | incomplete
  deriving DecidableEq, Repr

/-- A frame without arguments. -/
def decodeBare (i : Instr) (args : List Byte) : Decoded := .command i args

/-- A frame with one argument byte. -/
def decodeOne (f : Byte → Instr) : List Byte → Decoded
  | b1 :: rest => .command (f b1) rest
  | [] => .incomplete

/-- A frame with two argument bytes. -/
def decodeTwo (f : Byte → Byte → Instr) : List Byte → Decoded
  | b1 :: b2 :: rest => .command (f b1 b2) rest
  | _ => .incomplete

/-- `INIT`: id, group, and the frequency in b3..b6, most significant byte first (R60, R61). -/
def decodeInit : List Byte → Decoded
  | id :: group :: f3 :: f2 :: f1 :: f0 :: rest => .command (.init id group (f3 ++ f2 ++ f1 ++ f0)) rest
  | _ => .incomplete

/-- `SEND`: the header byte (flags in bits 7:6, destId in bits 5:0), `len`, and `len` payload bytes (R61). A `len` over 62 is
a frame too, on which the command raises `BadArgument` (log entries 10 and 19). -/
def decodeSend : List Byte → Decoded
  | header :: len :: tail =>
    if (tail.take len.toNat).length < len.toNat then .incomplete
    else .command (.send (header.extractLsb' 6 2) (header.extractLsb' 0 6) (tail.take len.toNat)) (tail.drop len.toNat)
  | _ => .incomplete

/-- The opcode map of R61; every other opcode byte is an illegal command (R63). -/
def decodeOp (op : Byte) (args : List Byte) : Decoded :=
  match op.toNat with
  | 0x01 => decodeInit args
  | 0x02 => decodeSend args
  | 0x03 => decodeOne .receive args
  | 0x04 => decodeOne .getAck args
  | 0x05 => decodeOne .readAck args
  | 0x06 => decodeOne .txPower args
  | 0x07 => decodeTwo .adjustPow args
  | 0x08 => decodeBare .adjustFreq args
  | 0x09 => decodeBare .sleep args
  | 0x0A => decodeBare .addInfo args
  | 0x0B => decodeBare .modeReady args
  | 0x10 => decodeBare .rdRssi args
  | 0x11 => decodeBare .rdFe args
  | 0x12 => decodeBare .rdLna args
  | 0x13 => decodeBare .rdMargin args
  | 0x14 => decodeBare .rdFreq args
  | 0x15 => decodeBare .rdTxPow args
  | _ => .illegal op args

/-- The next frame of a byte stream (R60). -/
def decode : List Byte → Decoded
  | [] => .incomplete
  | op :: args => decodeOp op args

/-- The opcode byte of a command (R61). -/
def Instr.opcode : Instr → Byte
  | .init _ _ _ => 0x01
  | .send _ _ _ => 0x02
  | .receive _ => 0x03
  | .getAck _ => 0x04
  | .readAck _ => 0x05
  | .txPower _ => 0x06
  | .adjustPow _ _ => 0x07
  | .adjustFreq => 0x08
  | .sleep => 0x09
  | .addInfo => 0x0A
  | .modeReady => 0x0B
  | .rdRssi => 0x10
  | .rdFe => 0x11
  | .rdLna => 0x12
  | .rdMargin => 0x13
  | .rdFreq => 0x14
  | .rdTxPow => 0x15

/-- The argument bytes of a command's frame (R61). -/
def Instr.argBytes : Instr → List Byte
  | .init id group freq =>
    [id, group, freq.extractLsb' 24 8, freq.extractLsb' 16 8, freq.extractLsb' 8 8, freq.extractLsb' 0 8]
  | .send flags destId payload => (flags ++ destId) :: BitVec.ofNat 8 payload.length :: payload
  | .receive len => [len]
  | .getAck len => [len]
  | .readAck len => [len]
  | .txPower dBm => [dBm]
  | .adjustPow margin target => [margin, target]
  | .adjustFreq => []
  | .sleep => []
  | .addInfo => []
  | .modeReady => []
  | .rdRssi => []
  | .rdFe => []
  | .rdLna => []
  | .rdMargin => []
  | .rdFreq => []
  | .rdTxPow => []

/-- The frame of a command (R60). -/
def encode (i : Instr) : List Byte := i.opcode :: i.argBytes

/-- A frame's length in bytes, the column "bytes" of R61. -/
def Instr.frameLength : Instr → Nat
  | .init _ _ _ => 7
  | .send _ _ payload => 3 + payload.length
  | .receive _ => 2
  | .getAck _ => 2
  | .readAck _ => 2
  | .txPower _ => 2
  | .adjustPow _ _ => 3
  | .adjustFreq => 1
  | .sleep => 1
  | .addInfo => 1
  | .modeReady => 1
  | .rdRssi => 1
  | .rdFe => 1
  | .rdLna => 1
  | .rdMargin => 1
  | .rdFreq => 1
  | .rdTxPow => 1

/-- The longest frame the decoder takes: `SEND` with `len` = 255. -/
def longestFrame : Nat := 258

/-- The bytes of the opcode table's number `w` of `nbits` bits: byte `k` is bits `8k+7..8k`, the first byte of the
frame lowest, and every byte above is 0 up to the longest frame (log entry 21). -/
def tableBytes (nbits w : Nat) : List Byte :=
  (List.range (nbits / 8)).map (fun k => BitVec.ofNat 8 (w >>> (8 * k))) ++ List.replicate (longestFrame - nbits / 8) 0

/-- The frame at the head of a byte stream, without what follows it (R61, column "bytes"). -/
def frameOf (bytes : List Byte) : List Byte :=
  match decode bytes with
  | .command i _ => bytes.take i.frameLength
  | .illegal op _ => [op]
  | .incomplete => bytes

/-- The command the decoder reads from the opcode table's number `w` of `nbits` bits. -/
def decodeTableWord (nbits w : Nat) : Option Instr :=
  match decode (tableBytes nbits w) with
  | .command i _ => some i
  | .illegal _ _ => none
  | .incomplete => none

end Sys2Proof
end

