-- ==== Sys2Proof/Config.lean ====
section
/-! DEFINITION. What an implementation fixes (R6: "A model takes each as an argument of its configuration; none is
state"), the one opaque configuration `Config.chip` of the machine, and the free values the radio's answers are drawn
from (R41). Nothing here gives an open parameter a value. -/

namespace Sys2Proof

/-- The five radio modes (R23). -/
inductive Mode where
  | sleep | standby | freqSynth | transmit | receive
  deriving DecidableEq, Repr, Inhabited

/-- The radio registers the block uses, by the names of R43. -/
inductive Reg where
  | fifo | opMode | frfMsb | frfMid | frfLsb | paLevel | lna | afcMsb | afcLsb | rssiValue
  | irqFlags1 | irqFlags2 | rxTimeout1 | rxTimeout2 | syncValue1 | syncValue2
  deriving DecidableEq, Repr, Inhabited

/-- The power-amplifier variant (R2): PA_LOW is -18..13 dBm, PA_HIGH is 2..20 dBm. -/
inductive PaVariant where
  | paLow | paHigh
  deriving DecidableEq, Repr, Inhabited

/-- Where a write of `PA_LEVEL_WRITES` goes: a register of R43 by its name (R6, R150), or an address R43 does not name,
which R44 allows these writes (log entry 12). -/
inductive WriteTarget where
  | named (r : Reg)
  | address (a : Byte)
  deriving DecidableEq, Repr, Inhabited

/-- `FE_SIGN`, -1 or +1 (R6). -/
inductive FeSign where
  | minus | plus
  deriving DecidableEq, Repr, Inhabited

/-- The parameters of R6, one field each, in its order. A parameter whose type R6 restricts is held in a form that
admits every allowed value; `Machine/Operands.lean` reads it (log entry 12). -/
structure Config where
  /-- `PA_VARIANT` (R2, R6). -/
  paVariant : PaVariant
  /-- `REG_ADDR` (R6, R43). -/
  regAddr : Reg → Byte
  /-- `MODE_CODE` (R6, R65). -/
  modeCode : Mode → BitVec 3
  /-- `IRQ1_SYNC_BIT` (R66). -/
  irq1SyncBit : Fin 8
  /-- `IRQ1_MODEREADY_BIT` (R66). -/
  irq1ModeReadyBit : Fin 8
  /-- `IRQ1_TIMEOUT_BIT` (R66). -/
  irq1TimeoutBit : Fin 8
  /-- `IRQ2_PAYLOADREADY_BIT` (R66). -/
  irq2PayloadReadyBit : Fin 8
  /-- `IRQ2_PACKETSENT_BIT` (R66). -/
  irq2PacketSentBit : Fin 8
  /-- `LNA_SHIFT`, 0..5 (R68). -/
  lnaShift : Fin 6
  /-- `RSSI_DIVISOR` less 1: the divisor is a positive integer (R6, R70). -/
  rssiDivisorPred : Nat
  /-- `FE_SIGN` (R69). -/
  feSign : FeSign
  /-- Bits 7:6 of `PARITY_FN`, whose other bits are 0 (R110, R111). -/
  parityFn : Byte → BitVec 2
  /-- `CATCHALL_IGNORES_PARITY` (R113). -/
  catchallIgnoresParity : Bool
  /-- `ACK_FLAG_CHECK` (R114). -/
  ackFlagCheck : Bool
  /-- `CONFIG_TABLE`: address and byte, in order (R170). -/
  configTable : List (Byte × Byte)
  /-- `NONCE_REG` (R72). -/
  nonceReg : Reg
  /-- `NONCE_RETRIES` less 1: the count is at least 1 (R6). -/
  nonceRetriesPred : Nat
  /-- `SYNC_GROUP_REG` (R72). -/
  syncGroupReg : Reg
  /-- `TX_POWER_INIT_DBM`, before it is held to `TX_RANGE` (R6). -/
  txPowerInit : Int
  /-- `PA_LEVEL_WRITES` (R150). -/
  paLevelWrites : Int → List (WriteTarget × Byte)
  /-- `CHANNEL_BW_HZ` (R153). -/
  channelBwHz : Nat
  /-- `ACK_TIMEOUT1` (R71). -/
  ackTimeout1 : Byte
  /-- `ACK_TIMEOUT2` (R71). -/
  ackTimeout2 : Byte
  /-- `TARGET_MARGIN_DB`, a signed 8-bit value (R6, R175). -/
  targetMarginDb : Byte
  /-- `POWER_CONTROL_ENABLED` (R175). -/
  powerControlEnabled : Bool
  /-- `TIMEOUT_BOOST_ENABLED` (R174). -/
  timeoutBoostEnabled : Bool
  /-- `FE_INFO_CODE` (R76, R155). -/
  feInfoCode : Int → Byte
  deriving Inhabited

/-- The configuration of the machine: some value of every parameter of R6, none of them known (log entry 3). -/
opaque Config.chip : Config

/-- The radio's answer to the RegRead number `n` of the run, where the state lists none: any byte (R41, log entry 2). -/
opaque Config.radioRegister : Nat → Byte

/-- The length byte of the radio's answer to the FifoRead number `n` of the run, where the state lists none (R41, log entry 2). -/
opaque Config.radioCount : Nat → Byte

/-- Byte `k` of the radio's answer to the FifoRead number `n` of the run, where the state lists none (R41, log entry 2). -/
opaque Config.radioData : Nat → Nat → Byte

end Sys2Proof
end

