-- ==== Sys2Proof/Machine/State.lean ====
section
/-! DEFINITION. The block's state: the record S of R20 (R22 to R29, R31, R32), and beside it the model's own fields for
what the host has put on the command port and what the radio will answer (log entries 1 and 2). -/

namespace Sys2Proof.Machine

/-- Whether init found the radio (R22). -/
inductive LinkState where
  | uninit | ready | failed
  deriving DecidableEq, Repr

/-- The fields of S that can hold no value (R21, R36). -/
inductive Field where
  | mode | nodeId | groupParity | currentFrequency | txPowerDbm
  | rssiRaw | lnaGainDb | frequencyErrorHz | snrDb | marginDb | lastSync
  deriving DecidableEq, Repr

/-- The block's fault kinds, the closed set of R201. A command that raises one completes its step: the fault is recorded
in `State.fault` and the command's earlier effects stay. A step answers `Outcome.fault f` only when a command is given to
a block that already holds the record `f` ("A block with `S.fault ≠ none` executes no further command", R201). Each is
safe: no claim about a later state can be proved from a stopped machine (R201, column "errs"). -/
inductive Fault where
  /-- Raised by every command but INIT when `linkState` is not Ready (R203); safe. -/
  | notReady
  /-- Raised where a rule or a telemetry read needs a field that holds no value (R21, R202); safe. -/
  | unwritten (field : Field)
  /-- Raised by the decoder for an opcode R61 does not list (R204); safe. -/
  | illegalCommand (op : Byte)
  /-- Raised by INIT, SEND, RECEIVE, GETACK, READACK for an argument out of range (R205); safe. -/
  | badArgument (op : Byte)
  /-- Raised by setFrequency for the frequency 0, where the source's loop never ends (R206); safe. -/
  | freqZeroHang
  /-- Raised by setFrequency and adjustFreq for a frequency out of range (R209); safe. -/
  | freqOutOfRange (v : Int)
  /-- Raised by GETACK in Sleep, Standby or FreqSynth (R207); safe. -/
  | noAckWait (mode : Mode)
  deriving DecidableEq, Repr

/-- Why a step has no meaning. -/
inductive Refusal where
  /-- Answered by an arm of `exec` whose command has no meaning yet; no arm of this model does. Safe. -/
  | notModelled (mnemonic : String)
  deriving DecidableEq, Repr

/-- The typed results of R62. -/
inductive Result where
  /-- SEND, TXPOWER, ADJUSTPOW, ADJUSTFREQ, SLEEP return nothing. -/
  | nothing
  /-- INIT's success. -/
  | success
  /-- INIT's failure (R171). -/
  | failure
  /-- RECEIVE, GETACK, READACK: the integer, and the data bytes where a FifoRead took place (R52, log entry 16). -/
  | poll (code : Int) (data : Option (List Byte))
  /-- ADDINFO's two bytes (R76). -/
  | trailer (t0 t1 : Byte)
  /-- MODEREADY's Bool. -/
  | flag (b : Bool)
  /-- A telemetry read's integer (R177). -/
  | value (v : Int)
  deriving DecidableEq, Repr

/-- One transaction on the register transport (R9, R48), with the address the radio sees (log entry 11). -/
inductive Transaction where
  | regRead (addr v : Byte)
  | regWrite (addr v : Byte)
  | fifoWrite (addr : Byte) (bytes : List Byte)
  | fifoRead (addr : Byte) (n : Nat) (count : Byte) (data : List Byte)
  deriving DecidableEq, Repr

/-- One entry of the history H: "every transport transaction issued ... and every command issued with its result" (R32). -/
inductive Event where
  | transaction (t : Transaction)
  | returned (command : Instr) (result : Result)
  deriving DecidableEq, Repr

/-- A packet the radio holds: its length byte and the bytes after it (R46). -/
structure Packet where
  count : Byte
  bytes : List Byte
  deriving DecidableEq, Repr

/-- The machine. `none` in an Option field is the spec's "unwritten" (R21, log entry 7). -/
@[ext]
structure State where
  /-- R22. -/
  linkState : LinkState
  /-- The recorded mode, not the radio's (R23). -/
  mode : Option Mode
  /-- R24. -/
  nodeId : Option (BitVec 6)
  /-- R25. -/
  groupParity : Option (BitVec 2)
  /-- R26. -/
  currentFrequency : Option Hz32
  /-- R27. -/
  txPowerDbm : Option Int
  /-- LinkMetrics (R28). -/
  rssiRaw : Option Byte
  /-- LinkMetrics (R28). -/
  lnaGainDb : Option Nat
  /-- LinkMetrics (R28). -/
  frequencyErrorHz : Option Int
  /-- LinkMetrics (R28). -/
  snrDb : Option Nat
  /-- LinkMetrics (R28). -/
  marginDb : Option Int
  /-- R29. -/
  lastSync : Option Bool
  /-- The sticky fault record (R31). -/
  fault : Option Fault
  /-- H, oldest entry first (R32). A command's entry stands after the command's own transactions (DESIGN CHOICE, log
  entry 22). -/
  history : List Event
  /-- The model's own: bytes of the host's frames the block has not taken yet (log entry 1). -/
  inbox : List Byte
  /-- The model's own: the radio's coming answers to RegRead, the next one first (log entry 2). -/
  regAnswers : List Byte
  /-- The model's own: the radio's coming answers to FifoRead, the next one first (log entry 2). -/
  packets : List Packet
  /-- The model's own: the number of the next RegRead (log entry 2). -/
  regReads : Nat
  /-- The model's own: the number of the next FifoRead (log entry 2). -/
  fifoReads : Nat
  deriving DecidableEq, Repr

/-- Construction of the block (R230, R36): Uninit, no fault, H empty, every other field of S unwritten; nothing on the
port and no answer listed (log entries 1 and 2). -/
def State.reset : State where
  linkState := .uninit
  mode := none
  nodeId := none
  groupParity := none
  currentFrequency := none
  txPowerDbm := none
  rssiRaw := none
  lnaGainDb := none
  frequencyErrorHz := none
  snrDb := none
  marginDb := none
  lastSync := none
  fault := none
  history := []
  inbox := []
  regAnswers := []
  packets := []
  regReads := 0
  fifoReads := 0

end Sys2Proof.Machine
end

