-- ==== Sys2Proof/Machine/Operands.lean ====
section
/-! DEFINITION. The values the rules compute: the constants of R5, the notation of R8, the parameters of R6 as the rules
read them, and the conversions of the register fields (R65 to R70), the frequency (R115, R116), the group parity (R110),
the header bytes (R75) and the info trailer (R76, R118). -/

namespace Sys2Proof.Machine

/-! ## Notation (R8) -/

/-- `clamp(v, lo, hi) = min(hi, max(lo, v))` (R8). -/
def clamp (v lo hi : Int) : Int := min hi (max lo v)

/-- `tdiv(a, b)`, truncated toward zero (R8). -/
def tdiv (a b : Int) : Int := Int.tdiv a b

/-- `sext_8` (R8). -/
def sext8 (b : Byte) : Int := b.toInt

/-- `sext_16` (R8). -/
def sext16 (w : BitVec 16) : Int := w.toInt

/-- `v[7:6]` of a byte (R8). -/
def topTwo (b : Byte) : BitVec 2 := b.extractLsb' 6 2

/-- `v[5:0]` of a byte (R8). -/
def lowSix (b : Byte) : BitVec 6 := b.extractLsb' 0 6

/-! ## Fixed constants (R5) -/

/-- `CATCHALL_ID` (R5). -/
def catchallId : BitVec 6 := 63

/-- `BROADCAST_ID` (R5). -/
def broadcastId : BitVec 6 := 0

/-- `MAX_PAYLOAD` (R5). -/
def maxPayload : Nat := 62

/-- `HEADER_LEN` (R5). -/
def headerLen : Nat := 2

/-- `FXOSC_HZ` (R5). -/
def fxoscHz : Nat := 32000000

/-- `FREQ_FLOOR_HZ` (R5). -/
def freqFloorHz : Nat := 100000000

/-- The first frequency whose register value needs more than 24 bits (R67). -/
def freqCeilingHz : Nat := 1024000000

/-- `LNA_TABLE` in dB, by the 3-bit code (R5, R68). -/
def lnaTable (code : BitVec 3) : Nat :=
  match code.toNat with
  | 0 => 0
  | 1 => 0
  | 2 => 6
  | 3 => 12
  | 4 => 24
  | 5 => 36
  | 6 => 48
  | _ => 48

/-- `AFC_LSB_HZ` (R5). -/
def afcLsbHz : Int := 61

/-- `DEMOD_THRESHOLD_DB` (R5, R135). -/
def demodThresholdDb : Int := 13

/-- `POW_BIG_STEP_THRESHOLD_DB` (R5). -/
def powBigStepThresholdDb : Int := 4

/-- `NONCE_1` (R5). -/
def nonce1 : Byte := 0xAA

/-- `NONCE_2` (R5). -/
def nonce2 : Byte := 0x55

/-! ## Parameters as the rules read them (R6, log entry 12) -/

/-- `TX_RANGE(PA_VARIANT).lo` (R2, R5). -/
def txLo (c : Config) : Int :=
  match c.paVariant with
  | .paLow => -18
  | .paHigh => 2

/-- `TX_RANGE(PA_VARIANT).hi` (R2, R5). -/
def txHi (c : Config) : Int :=
  match c.paVariant with
  | .paLow => 13
  | .paHigh => 20

/-- `TX_POWER_INIT_DBM`, an integer in `TX_RANGE(PA_VARIANT)` (R6). -/
def txPowerInitDbm (c : Config) : Int := clamp c.txPowerInit (txLo c) (txHi c)

/-- `NONCE_RETRIES`, at least 1 (R6). -/
def nonceRetries (c : Config) : Nat := c.nonceRetriesPred + 1

/-- `RSSI_DIVISOR`, positive (R6). -/
def rssiDivisor (c : Config) : Nat := c.rssiDivisorPred + 1

/-- The address the radio sees for a write of `PA_LEVEL_WRITES` (R43, R44). -/
def targetAddr (c : Config) (t : WriteTarget) : Byte :=
  match t with
  | .named r => c.regAddr r
  | .address a => a

/-- `FE_SIGN` as an integer (R6). -/
def feSignOf (c : Config) : Int :=
  match c.feSign with
  | .minus => -1
  | .plus => 1

/-! ## Register fields -/

/-- The mode-register byte `MODE_CODE(m) << 2`, bits 7:5 and 1:0 zero (R65). -/
def opModeByte (c : Config) (m : Mode) : Byte := (0 : BitVec 3) ++ c.modeCode m ++ (0 : BitVec 2)

/-- `lnaGain(b) = LNA_TABLE[b[LNA_SHIFT+2 : LNA_SHIFT]]` (R133). -/
def lnaGain (c : Config) (b : Byte) : Nat := lnaTable (b.extractLsb' c.lnaShift.val 3)

/-- `afcToHz(w) = FE_SIGN * AFC_LSB_HZ * sext_16(w)` (R132). -/
def afcToHz (c : Config) (w : BitVec 16) : Int := feSignOf c * afcLsbHz * sext16 w

/-- `linkMargin(snr) = snr - DEMOD_THRESHOLD_DB` (R135). -/
def linkMargin (snr : Nat) : Int := (snr : Int) - demodThresholdDb

/-- `noise = (n1 + n2) div 2` (R134). -/
def noiseOf (n1 n2 : Byte) : Nat := (n1.toNat + n2.toNat) / 2

/-- `max(0, noise - r) div RSSI_DIVISOR` (R134); the difference of naturals is floored at 0. -/
def snrOf (c : Config) (n1 n2 r : Byte) : Nat := (noiseOf n1 n2 - r.toNat) / rssiDivisor c

/-! ## Frequency (R67, R115, R116) -/

/-- The loop of `scaleFreq`, at most `fuel` multiplications: "while f < 100,000,000: f <- f * 10" (R115, log entry 15). -/
def scaleUp : Nat → Nat → Nat
  | 0, f => f
  | fuel + 1, f => if f < freqFloorHz then scaleUp fuel (f * 10) else f

/-- The scaled frequency of `f > 0`: 8 multiplications take every such `f` to the floor (R115, log entry 15). -/
def scaledHz (f : Nat) : Nat := scaleUp 8 f

/-- `frf = (hz * 2^19) div 32,000,000` (R67). -/
def frfOf (hz : Nat) : Nat := hz * 2 ^ 19 / fxoscHz

/-- The 24-bit register value of `hz` (R67). -/
def frfBits (hz : Nat) : BitVec 24 := BitVec.ofNat 24 (frfOf hz)

/-- `frf[23:16]` (R67). -/
def frfMsb (hz : Nat) : Byte := (frfBits hz).extractLsb' 16 8

/-- `frf[15:8]` (R67). -/
def frfMid (hz : Nat) : Byte := (frfBits hz).extractLsb' 8 8

/-- `frf[7:0]` (R67). -/
def frfLsb (hz : Nat) : Byte := (frfBits hz).extractLsb' 0 8

/-- `corr = clamp(tdiv(fe, 4), -lim, lim)` with `lim = CHANNEL_BW_HZ div 4` (R153). -/
def freqCorrection (c : Config) (fe : Int) : Int :=
  clamp (tdiv fe 4) (-((c.channelBwHz / 4 : Nat) : Int)) ((c.channelBwHz / 4 : Nat) : Int)

/-! ## Packets (R75, R110, R112, R118) -/

/-- `groupParityOf(g) = PARITY_FN(g)[7:6]` (R110). -/
def groupParityOf (c : Config) (g : Byte) : BitVec 2 := c.parityFn g

/-- The frame `[len + 2, destByte, srcByte, payload...]` (R112, R75). -/
def frameBytes (parity : BitVec 2) (me : BitVec 6) (flags : BitVec 2) (destId : BitVec 6) (payload : List Byte) :
    List Byte :=
  BitVec.ofNat 8 (payload.length + headerLen) :: (parity ++ destId) :: (flags ++ me) :: payload

/-- A packet's length byte is one a conforming sender can write (R113, R114). -/
def lengthInRange (count : Byte) : Bool := 2 ≤ count.toNat && count.toNat ≤ 64

/-- `infoTrailer(count, data, len)` (R118). -/
def infoTrailer (count : Byte) (data : List Byte) (len : Byte) : Option (Byte × Byte) :=
  if 4 ≤ count.toNat ∧ count.toNat ≤ len.toNat then
    match data[count.toNat - 2]?, data[count.toNat - 1]? with
    | some t0, some t1 => some (t0, t1)
    | _, _ => none
  else none

/-- `peerMargin(T0) = sext_8(T0)` (R118). -/
def peerMargin (t0 : Byte) : Int := sext8 t0

/-- `zext_8(clamp(m, -128, 127))`, the trailer's margin byte in two's complement (R76, R155). -/
def marginByte (m : Int) : Byte := BitVec.ofInt 8 (clamp m (-128) 127)

end Sys2Proof.Machine
end

