-- ==== Sys2Proof/Machine/Flags.lean ====
section
/-! DEFINITION. The block has no flags of its own (R33); these are the five status flags of the radio's two IRQ-flags
registers, each one bit of the byte a RegRead answered (R66). -/

namespace Sys2Proof.Machine

/-- `bit(b, i) = 1` (R8, R9). -/
def bitSet (b : Byte) (i : Fin 8) : Bool := b.getLsbD i.val

/-- Sync-address match, of `IrqFlags1` (R66, R130). -/
def syncMatch (c : Config) (f1 : Byte) : Bool := bitSet f1 c.irq1SyncBit

/-- Mode ready, of `IrqFlags1` (R66, R103). -/
def modeReadyFlag (c : Config) (f1 : Byte) : Bool := bitSet f1 c.irq1ModeReadyBit

/-- Timeout, of `IrqFlags1` (R66, R174). -/
def timeoutFlag (c : Config) (f1 : Byte) : Bool := bitSet f1 c.irq1TimeoutBit

/-- Payload ready, of `IrqFlags2` (R66, R173, R174). -/
def payloadReady (c : Config) (f2 : Byte) : Bool := bitSet f2 c.irq2PayloadReadyBit

/-- Packet sent, of `IrqFlags2` (R66, R174). -/
def packetSent (c : Config) (f2 : Byte) : Bool := bitSet f2 c.irq2PacketSentBit

end Sys2Proof.Machine
end

