-- ==== Sys2Proof/Machine/Ops.lean ====
section
/-! DEFINITION. The named operations: the updates of S, the radio's next answer, the four transport primitives of R9,
reading a field that may hold no value (R21), raising a fault (R201), the readiness check (R203), a command's one atomic
step (R30, R200), and taking the next frame from the command port (R60, R61). -/

namespace Sys2Proof.Machine

/-! ## Updates of S -/

/-- `S.linkState <- l` (R22). -/
def State.setLink (l : LinkState) (s : State) : State := { s with linkState := l }

/-- `S.mode <- m` (R23). -/
def State.setMode (m : Mode) (s : State) : State := { s with mode := some m }

/-- `S.nodeId <- id`, `S.groupParity <- p` (R24, R25). -/
def State.setIdentity (id : BitVec 6) (p : BitVec 2) (s : State) : State :=
  { s with nodeId := some id, groupParity := some p }

/-- `S.currentFrequency <- hz` (R26). -/
def State.setFrequency (hz : Hz32) (s : State) : State := { s with currentFrequency := some hz }

/-- `S.txPowerDbm <- p` (R27). -/
def State.setPower (p : Int) (s : State) : State := { s with txPowerDbm := some p }

/-- The three fields of a sync-edge capture (R28, R130). -/
def State.setSyncMetrics (rssi : Byte) (gain : Nat) (fe : Int) (s : State) : State :=
  { s with rssiRaw := some rssi, lnaGainDb := some gain, frequencyErrorHz := some fe }

/-- The two fields of a payload-ready read (R28, R134). -/
def State.setPayloadMetrics (snr : Nat) (margin : Int) (s : State) : State :=
  { s with snrDb := some snr, marginDb := some margin }

/-- The five LinkMetrics fields made unwritten (R28, R170). -/
def State.clearMetrics (s : State) : State :=
  { s with rssiRaw := none, lnaGainDb := none, frequencyErrorHz := none, snrDb := none, marginDb := none }

/-- `S.lastSync <- b` (R29). -/
def State.setLastSync (b : Bool) (s : State) : State := { s with lastSync := some b }

/-- `S.fault <- f` (R31). -/
def State.setFault (f : Fault) (s : State) : State := { s with fault := some f }

/-- Entries appended to H, in order (R32). -/
def State.log (es : List Event) (s : State) : State := { s with history := s.history ++ es }

/-- The host's bytes not taken yet (log entry 1). -/
def State.setInbox (bytes : List Byte) (s : State) : State := { s with inbox := bytes }

/-! ## The radio's answers (R41, log entry 2) -/

/-- The radio's answer to the RegRead `k` reads ahead: the one the state lists, else a free value. -/
def State.answer (s : State) (k : Nat) : Byte := s.regAnswers.getD k (Config.radioRegister (s.regReads + k))

/-- The next RegRead is answered. -/
def State.tookAnswer (s : State) : State :=
  { s with regAnswers := s.regAnswers.tail, regReads := s.regReads + 1 }

/-- The length byte of the radio's next answer to FifoRead: the one the state lists, else a free value. -/
def State.packetCount (s : State) : Byte :=
  match s.packets with
  | p :: _ => p.count
  | [] => Config.radioCount s.fifoReads

/-- Byte `k` after the length byte in the radio's next answer to FifoRead: the one the state lists, else a free value (log
entry 13). -/
def State.packetByte (s : State) (k : Nat) : Byte :=
  match s.packets with
  | p :: _ => p.bytes.getD k (Config.radioData s.fifoReads k)
  | [] => Config.radioData s.fifoReads k

/-- The data FifoRead(n) delivers: the first `min(count, n)` bytes after the length byte (R46). -/
def State.packetData (s : State) (n : Nat) : List Byte :=
  (List.range (min s.packetCount.toNat n)).map s.packetByte

/-- The next FifoRead is answered; what it did not deliver is discarded (R46). -/
def State.tookPacket (s : State) : State :=
  { s with packets := s.packets.tail, fifoReads := s.fifoReads + 1 }

/-! ## Commands as sequences that may end in a fault -/

/-- A piece of a command: it changes the state and gives a value, or it has raised a fault; either way every state
write and transaction made so far stands (R201). -/
abbrev Cmd (α : Type) := EStateM Fault State α

/-- A write of S or of H. -/
def update (f : State → State) : Cmd Unit := fun s => .ok () (f s)

/-- `raise F(info)` (R201): the block's one exception entry. It records the fault and ends the command; nothing is
rolled back, and there is no handler to go to and no return from it (R214, log entry 5). -/
def raise {α : Type} (f : Fault) : Cmd α := fun s => .error f (s.setFault f)

/-- A read of a field of S: `Unwritten(field)` where it holds no value (R21, R202). -/
def demand {α : Type} (field : Field) (get : State → Option α) : Cmd α := fun s =>
  match get s with
  | some v => .ok v s
  | none => raise (.unwritten field) s

/-- `RegRead(r)` (R9, R41, R42). -/
def regRead (c : Config) (r : Reg) : Cmd Byte := fun s =>
  .ok (s.answer 0) (s.tookAnswer.log [.transaction (.regRead (c.regAddr r) (s.answer 0))])

/-- `RegWrite(r, v)` (R9, R42). -/
def regWrite (c : Config) (r : Reg) (v : Byte) : Cmd Unit :=
  update (State.log [.transaction (.regWrite (c.regAddr r) v)])

/-- The writes of `PA_LEVEL_WRITES`, in list order (R44, R150). -/
def regWrites (c : Config) (ws : List (WriteTarget × Byte)) : Cmd Unit :=
  update (State.log (ws.map fun w => .transaction (.regWrite (targetAddr c w.1) w.2)))

/-- A list of writes by address, in table order (R43, R170). -/
def memWrites (ws : List (Byte × Byte)) : Cmd Unit :=
  update (State.log (ws.map fun w => .transaction (.regWrite w.1 w.2)))

/-- `FifoWrite(bytes)`, one transaction (R9, R42, R47). -/
def fifoWrite (c : Config) (bytes : List Byte) : Cmd Unit :=
  update (State.log [.transaction (.fifoWrite (c.regAddr .fifo) bytes)])

/-- `FifoRead(n)`, one transaction: the length byte and the delivered data (R9, R42, R46). -/
def fifoRead (c : Config) (n : Nat) : Cmd (Byte × List Byte) := fun s =>
  .ok (s.packetCount, s.packetData n)
    (s.tookPacket.log [.transaction (.fifoRead (c.regAddr .fifo) n s.packetCount (s.packetData n))])

/-- `checkReady()` (R203). -/
def checkReady : Cmd Unit := fun s =>
  match s.linkState with
  | .ready => .ok () s
  | .uninit => raise .notReady s
  | .failed => raise .notReady s

/-! ## One command, one step (R30, R200) -/

/-- The outcome type of every meaning. -/
abbrev StepOutcome := Host.Outcome State Fault Refusal

/-- The state a command leaves: one that returns adds itself and its result to H (R32); one that faults has no result
(R201) and adds no entry of its own (log entry 6).
DESIGN CHOICE (log entry 22, unsafe): R32 says only "in order" and does not place a command's one entry among its own
transactions; here the entry stands after all of them. -/
def settle (i : Instr) : EStateM.Result Fault State Result → State
  | .ok r t => t.log [.returned i r]
  | .error _ t => t

/-- One host command as one atomic step (R30). A block with a recorded fault executes no further command: the machine
stops with that fault (R201, log entry 4). -/
def command (i : Instr) (body : Cmd Result) (s : State) : StepOutcome :=
  match s.fault with
  | some f => .fault f
  | none => .next (settle i (body s))

/-- A frame of an opcode R61 does not list raises `IllegalCommand(op)` before any check or transaction (R204). -/
def illegalCommand (op : Byte) (s : State) : StepOutcome :=
  match s.fault with
  | some f => .fault f
  | none => .next (s.setFault (.illegalCommand op))

/-! ## The command port (R60, R61, log entry 1) -/

/-- What the port delivers to the next step. -/
inductive Fetched where
  /-- No complete frame: the block waits (R61, R230). -/
  | idle
  /-- A frame of an unlisted opcode, and the state with the frame taken. -/
  | illegal (op : Byte) (s : State)
  /-- A command, and the state with its frame taken. -/
  | command (i : Instr) (s : State)
  deriving DecidableEq, Repr

/-- Takes the next frame from the port. -/
def fetch (s : State) : Fetched :=
  match decode s.inbox with
  | .incomplete => .idle
  | .illegal op rest => .illegal op (s.setInbox rest)
  | .command i rest => .command i (s.setInbox rest)

end Sys2Proof.Machine
end

