-- ==== Sys2Proof/Machine/PacketCodec.lean ====
section
/-! DEFINITION. The Packet Codec (spec/41_packet_codec.md): the frame of a sent packet, the two receive filters and the
frequency encoder. -/

namespace Sys2Proof.Machine

/-- `encodeFrame(flags, destId, payload, len)`: the parity and the source id are always the block's own (R112). -/
def encodeFrame (flags : BitVec 2) (destId : BitVec 6) (payload : List Byte) : Cmd (List Byte) := do
  let parity ← demand .groupParity State.groupParity
  let me ← demand .nodeId State.nodeId
  pure (frameBytes parity me flags destId payload)

/-- The catch-all bypass of the receive filter: `CATCHALL_IGNORES_PARITY and S.nodeId = 63` (R113). -/
def catchallBypass (c : Config) : Cmd Bool :=
  if c.catchallIgnoresParity then do
    let me ← demand .nodeId State.nodeId
    pure (me == catchallId)
  else pure false

/-- The destination byte passes the address filter: matching parity, and the id is the node's own, broadcast, or the
node is the catch-all (R113). -/
def acceptDest (dest : Byte) : Cmd Bool := do
  let parity ← demand .groupParity State.groupParity
  if topTwo dest = parity then do
    let me ← demand .nodeId State.nodeId
    pure (lowSix dest == me || lowSix dest == broadcastId || me == catchallId)
  else pure false

/-- `acceptData(count, data)`, the receive filter (R113). -/
def acceptData (c : Config) (count : Byte) (data : List Byte) : Cmd Bool :=
  if lengthInRange count then
    match data with
    | dest :: _ => do
      let bypass ← catchallBypass c
      if bypass then pure true else acceptDest dest
    | [] => pure false
  else pure false

/-- The ack's header passes: matching parity, the node's own id, and the reserved flag where `ACK_FLAG_CHECK` (R114). -/
def acceptAckHeader (c : Config) (dest src : Byte) : Cmd Bool := do
  let parity ← demand .groupParity State.groupParity
  if topTwo dest = parity then do
    let me ← demand .nodeId State.nodeId
    if lowSix dest = me then pure (!(c.ackFlagCheck && !bitSet src 6))
    else pure false
  else pure false

/-- `acceptAck(count, data)`, the ack filter (R114). -/
def acceptAck (c : Config) (count : Byte) (data : List Byte) : Cmd Bool :=
  if lengthInRange count then
    match data with
    | dest :: src :: _ => acceptAckHeader c dest src
    | _ => pure false
  else pure false

/-- `scaleFreq(f)` (R115, R206). -/
def scaleFreq (f : Nat) : Cmd Nat := if f = 0 then raise .freqZeroHang else pure (scaledHz f)

/-- The three frequency writes, MSB first, and the recorded frequency (R116). -/
def programFrequency (c : Config) (hz : Nat) : Cmd Unit := do
  regWrite c .frfMsb (frfMsb hz)
  regWrite c .frfMid (frfMid hz)
  regWrite c .frfLsb (frfLsb hz)
  update (State.setFrequency (BitVec.ofNat 32 hz))

/-- `setFrequency(f)`: both faults come before any write (R116, R209). -/
def setFrequency (c : Config) (f : Nat) : Cmd Unit := do
  let hz ← scaleFreq f
  if freqCeilingHz ≤ hz then raise (.freqOutOfRange hz) else programFrequency c hz

end Sys2Proof.Machine
end

