-- ==== Sys2Proof/Machine/Adaptation.lean ====
section
/-! DEFINITION. The Adaptation Engine (spec/43_adaptation.md): txPower, the power loop, the frequency loop, and the info
trailer's producer. -/

namespace Sys2Proof.Machine

/-- `txPower(p)`: clamped, written always, recorded (R151). -/
def txPower (c : Config) (p : Int) : Cmd Unit := do
  regWrites c (c.paLevelWrites (clamp p (txLo c) (txHi c)))
  update (State.setPower (clamp p (txLo c) (txHi c)))

/-- `TXPOWER` (R151). -/
def txPowerBody (c : Config) (dBm : Byte) : Cmd Result := do
  checkReady
  txPower c (sext8 dBm)
  pure .nothing

/-- `adjustPow(margin, target)`: a damped decrease, a decrease by 1, the full deficit, or nothing at equality (R152). -/
def adjustPow (c : Config) (margin target : Int) : Cmd Unit := do
  let p ← demand .txPowerDbm State.txPowerDbm
  if margin - target > powBigStepThresholdDb then txPower c (p - (margin - target + 2) / 4)
  else if margin - target > 0 then txPower c (p - 1)
  else if margin - target < 0 then txPower c (p + (target - margin))
  else pure ()

/-- `ADJUSTPOW` (R152). -/
def adjustPowBody (c : Config) (margin target : Byte) : Cmd Result := do
  checkReady
  adjustPow c (sext8 margin) (sext8 target)
  pure .nothing

/-- `adjustFreq()`: a quarter of the last frequency error, clamped, added to the current frequency (R153, R209). -/
def adjustFreq (c : Config) : Cmd Unit := do
  let fe ← demand .frequencyErrorHz State.frequencyErrorHz
  let cur ← demand .currentFrequency State.currentFrequency
  if (cur.toNat : Int) + freqCorrection c fe < 1 ∨ (2 ^ 32 - 1 : Int) < (cur.toNat : Int) + freqCorrection c fe then
    raise (.freqOutOfRange ((cur.toNat : Int) + freqCorrection c fe))
  else setFrequency c ((cur.toNat : Int) + freqCorrection c fe).toNat

/-- `ADJUSTFREQ` (R153). -/
def adjustFreqBody (c : Config) : Cmd Result := do
  checkReady
  adjustFreq c
  pure .nothing

/-- `ADDINFO` (R155). -/
def addInfoBody (c : Config) : Cmd Result := do
  checkReady
  let m ← demand .marginDb State.marginDb
  let fe ← demand .frequencyErrorHz State.frequencyErrorHz
  pure (.trailer (marginByte m) (c.feInfoCode fe))

/-- `TXPOWER` on the machine's configuration (R151). -/
def execTxPower (dBm : Byte) (s : State) : StepOutcome := command (.txPower dBm) (txPowerBody Config.chip dBm) s

/-- `ADJUSTPOW` on the machine's configuration (R152). -/
def execAdjustPow (margin target : Byte) (s : State) : StepOutcome :=
  command (.adjustPow margin target) (adjustPowBody Config.chip margin target) s

/-- `ADJUSTFREQ` on the machine's configuration (R153). -/
def execAdjustFreq (s : State) : StepOutcome := command .adjustFreq (adjustFreqBody Config.chip) s

/-- `ADDINFO` on the machine's configuration (R155). -/
def execAddInfo (s : State) : StepOutcome := command .addInfo (addInfoBody Config.chip) s

end Sys2Proof.Machine
end

