-- ==== Sys2Proof/Machine/LinkQuality.lean ====
section
/-! DEFINITION. The Link Quality Estimator (spec/42_link_quality.md): the sync-match edge capture and the payload-ready
read. -/

namespace Sys2Proof.Machine

/-- The edge test `s and not S.lastSync` (R130); S.lastSync is read only where the flag is set (log entry 8). -/
def syncEdge (sync : Bool) : Cmd Bool :=
  if sync then do
    let last ← demand .lastSync State.lastSync
    pure (!last)
  else pure false

/-- The sync-edge capture: four reads in the order RssiValue, Lna, AfcMsb, AfcLsb (R130, R45). -/
def captureEdge (c : Config) : Cmd Unit := do
  let rssi ← regRead c .rssiValue
  let gain ← regRead c .lna
  let hi ← regRead c .afcMsb
  let lo ← regRead c .afcLsb
  update (State.setSyncMetrics rssi (lnaGain c gain) (afcToHz c (hi ++ lo)))

/-- `syncCheck()`: answers the `IrqFlags1` byte it read (R130). -/
def syncCheck (c : Config) : Cmd Byte := do
  let f ← regRead c .irqFlags1
  let edge ← syncEdge (syncMatch c f)
  if edge then captureEdge c else pure ()
  update (State.setLastSync (syncMatch c f))
  pure f

/-- `readPayload(n)`: the FIFO read between two RSSI samples, then the payload-ready metrics (R134). -/
def readPayload (c : Config) (n : Nat) : Cmd (Byte × List Byte) := do
  let n1 ← regRead c .rssiValue
  let packet ← fifoRead c n
  let n2 ← regRead c .rssiValue
  let r ← demand .rssiRaw State.rssiRaw
  update (State.setPayloadMetrics (snrOf c n1 n2 r) (linkMargin (snrOf c n1 n2 r)))
  pure packet

end Sys2Proof.Machine
end

