-- ==== Sys2Proof/Machine/ModeController.lean ====
section
/-! DEFINITION. The Mode Controller (spec/40_mode_controller.md): setMode, SLEEP, MODEREADY. -/

namespace Sys2Proof.Machine

/-- `setMode(m)`: one write of `OpMode`, and the new mode recorded at once, without a wait and without a skip (R100). -/
def setMode (c : Config) (m : Mode) : Cmd Unit := do
  regWrite c .opMode (opModeByte c m)
  update (State.setMode m)

/-- `SLEEP` (R101). -/
def sleepBody (c : Config) : Cmd Result := do
  checkReady
  setMode c .sleep
  pure .nothing

/-- `MODEREADY` (R103). -/
def modeReadyBody (c : Config) : Cmd Result := do
  checkReady
  let f ← regRead c .irqFlags1
  pure (.flag (modeReadyFlag c f))

/-- `SLEEP` on the machine's configuration (R101). -/
def execSleep (s : State) : StepOutcome := command .sleep (sleepBody Config.chip) s

/-- `MODEREADY` on the machine's configuration (R103). -/
def execModeReady (s : State) : StepOutcome := command .modeReady (modeReadyBody Config.chip) s

end Sys2Proof.Machine
end

