-- ==== Sys2Proof/Machine/LinkProtocol.lean ====
section
/-! DEFINITION. The Link Protocol (spec/44_link_protocol.md): INIT, SEND, RECEIVE, GETACK, READACK. -/

namespace Sys2Proof.Machine

/-- One sentinel of the presence check: at most `tries` write-read attempts, stopping at the first read-back that
equals the value written (R170, R171). -/
def presence (c : Config) (v : Byte) : Nat → Cmd Bool
  | 0 => pure false
  | tries + 1 => do
    regWrite c c.nonceReg v
    let back ← regRead c c.nonceReg
    if back = v then pure true else presence c v tries

/-- INIT after a failed presence check (R170, R171). -/
def initFail : Cmd Result := do
  update (State.setLink .failed)
  pure .failure

/-- INIT after the presence check passed: the table, Sleep, the frequency, the group, and the link's fields (R170). -/
def initBringUp (c : Config) (group : Byte) (freq : Hz32) : Cmd Result := do
  memWrites c.configTable
  setMode c .sleep
  setFrequency c freq.toNat
  regWrite c c.syncGroupReg group
  update (State.setPower (txPowerInitDbm c))
  update State.clearMetrics
  update (State.setLastSync false)
  update (State.setLink .ready)
  pure .success

/-- `INIT` (R170). Each sentinel has `NONCE_RETRIES` attempts of its own. -/
def initBody (c : Config) (id group : Byte) (freq : Hz32) : Cmd Result :=
  if 63 < id.toNat then raise (.badArgument 0x01)
  else do
    update (State.setIdentity (lowSix id) (groupParityOf c group))
    let ok1 ← presence c nonce1 (nonceRetries c)
    if ok1 then do
      let ok2 ← presence c nonce2 (nonceRetries c)
      if ok2 then initBringUp c group freq else initFail
    else initFail

/-- `SEND` (R172). -/
def sendBody (c : Config) (flags : BitVec 2) (destId : BitVec 6) (payload : List Byte) : Cmd Result := do
  checkReady
  if maxPayload < payload.length then raise (.badArgument 0x02)
  else do
    setMode c .freqSynth
    let frame ← encodeFrame flags destId payload
    fifoWrite c frame
    setMode c .transmit
    pure .nothing

/-- The buffer-size check of RECEIVE, GETACK and READACK (R63, R205). -/
def checkLen (op len : Byte) : Cmd Unit := if len.toNat < headerLen then raise (.badArgument op) else pure ()

/-- RECEIVE's packet: read, then filter; the length byte on acceptance, else -1 (R173). -/
def receivePacket (c : Config) (len : Byte) : Cmd Result := do
  let packet ← readPayload c len.toNat
  let ok ← acceptData c packet.1 packet.2
  if ok then pure (.poll packet.1.toNat (some packet.2)) else pure (.poll (-1) (some packet.2))

/-- RECEIVE in Receive mode: the sync check for the metrics, then payload-ready (R173). -/
def receivePoll (c : Config) (len : Byte) : Cmd Result := do
  let _f1 ← syncCheck c
  let f2 ← regRead c .irqFlags2
  if payloadReady c f2 then receivePacket c len else pure (.poll (-1) none)

/-- `RECEIVE` (R173). -/
def receiveBody (c : Config) (len : Byte) : Cmd Result := do
  checkReady
  checkLen 0x03 len
  let m ← demand .mode State.mode
  if m = .receive then receivePoll c len
  else do
    setMode c .receive
    pure (.poll (-1) none)

/-- An accepted ack's trailer: the frequency loop always, then the power loop where it is enabled (R175, R176). -/
def adaptToTrailer (c : Config) (t0 : Byte) : Cmd Unit := do
  adjustFreq c
  if c.powerControlEnabled then adjustPow c (peerMargin t0) (sext8 c.targetMarginDb) else pure ()

/-- The trailer step of an accepted ack: nothing where there is no trailer (R175, R176). -/
def adaptIfTrailer (c : Config) : Option (Byte × Byte) → Cmd Unit
  | some t => adaptToTrailer c t.1
  | none => pure ()

/-- `readAckBody(len)` (R175). -/
def readAckBody (c : Config) (len : Byte) : Cmd Result := do
  let packet ← readPayload c len.toNat
  let ok ← acceptAck c packet.1 packet.2
  if ok then do
    adaptIfTrailer c (infoTrailer packet.1 packet.2 len)
    pure (.poll packet.1.toNat (some packet.2))
  else pure (.poll 0 (some packet.2))

/-- GETACK's Transmit phase: only packet-sent is tested (R174, R211). -/
def getAckTransmit (c : Config) : Cmd Result := do
  let f2 ← regRead c .irqFlags2
  if packetSent c f2 then do
    regWrite c .rxTimeout1 c.ackTimeout1
    regWrite c .rxTimeout2 c.ackTimeout2
    setMode c .receive
    pure (.poll (-1) none)
  else pure (.poll (-1) none)

/-- The missed-ack power boost of 1 dB (R174). -/
def timeoutBoost (c : Config) : Cmd Unit :=
  if c.timeoutBoostEnabled then do
    let p ← demand .txPowerDbm State.txPowerDbm
    txPower c (p + 1)
  else pure ()

/-- GETACK's Receive phase: sync check, then timeout, then payload-ready, so timeout wins (R174, R211). -/
def getAckReceive (c : Config) (len : Byte) : Cmd Result := do
  let f1 ← syncCheck c
  if timeoutFlag c f1 then do
    timeoutBoost c
    pure (.poll 0 none)
  else do
    let f2 ← regRead c .irqFlags2
    if payloadReady c f2 then readAckBody c len else pure (.poll (-1) none)

/-- `GETACK` (R174); a mode with no phase raises `NoAckWait` (R207). -/
def getAckBody (c : Config) (len : Byte) : Cmd Result := do
  checkReady
  checkLen 0x04 len
  let m ← demand .mode State.mode
  match m with
  | .transmit => getAckTransmit c
  | .receive => getAckReceive c len
  | .sleep => raise (.noAckWait .sleep)
  | .standby => raise (.noAckWait .standby)
  | .freqSynth => raise (.noAckWait .freqSynth)

/-- `READACK` (R175); payload-ready is not tested. -/
def readAckCommandBody (c : Config) (len : Byte) : Cmd Result := do
  checkReady
  checkLen 0x05 len
  readAckBody c len

/-- `INIT` on the machine's configuration (R170). -/
def execInit (id group : Byte) (freq : Hz32) (s : State) : StepOutcome :=
  command (.init id group freq) (initBody Config.chip id group freq) s

/-- `SEND` on the machine's configuration (R172). -/
def execSend (flags : BitVec 2) (destId : BitVec 6) (payload : List Byte) (s : State) : StepOutcome :=
  command (.send flags destId payload) (sendBody Config.chip flags destId payload) s

/-- `RECEIVE` on the machine's configuration (R173). -/
def execReceive (len : Byte) (s : State) : StepOutcome := command (.receive len) (receiveBody Config.chip len) s

/-- `GETACK` on the machine's configuration (R174). -/
def execGetAck (len : Byte) (s : State) : StepOutcome := command (.getAck len) (getAckBody Config.chip len) s

/-- `READACK` on the machine's configuration (R175). -/
def execReadAck (len : Byte) (s : State) : StepOutcome := command (.readAck len) (readAckCommandBody Config.chip len) s

end Sys2Proof.Machine
end

