-- ==== Sys2Proof/Machine/Telemetry.lean ====
section
/-! DEFINITION. The telemetry reads (R177): the field's value, no transaction, no state written. -/

namespace Sys2Proof.Machine

/-- A telemetry read of one field, as an integer (R177). -/
def telemetry {α : Type} (field : Field) (get : State → Option α) (toInt : α → Int) : Cmd Result := do
  checkReady
  let v ← demand field get
  pure (.value (toInt v))

/-- `RD_RSSI`: the raw byte, not dBm (R177). -/
def rdRssiBody : Cmd Result := telemetry .rssiRaw State.rssiRaw (fun b => (b.toNat : Int))

/-- `RD_FE` (R177). -/
def rdFeBody : Cmd Result := telemetry .frequencyErrorHz State.frequencyErrorHz (fun v => v)

/-- `RD_LNA` (R177). -/
def rdLnaBody : Cmd Result := telemetry .lnaGainDb State.lnaGainDb (fun n => (n : Int))

/-- `RD_MARGIN` (R177). -/
def rdMarginBody : Cmd Result := telemetry .marginDb State.marginDb (fun v => v)

/-- `RD_FREQ` (R177). -/
def rdFreqBody : Cmd Result := telemetry .currentFrequency State.currentFrequency (fun w => (w.toNat : Int))

/-- `RD_TXPOW` (R177). -/
def rdTxPowBody : Cmd Result := telemetry .txPowerDbm State.txPowerDbm (fun v => v)

/-- `RD_RSSI` (R177). -/
def execRdRssi (s : State) : StepOutcome := command .rdRssi rdRssiBody s

/-- `RD_FE` (R177). -/
def execRdFe (s : State) : StepOutcome := command .rdFe rdFeBody s

/-- `RD_LNA` (R177). -/
def execRdLna (s : State) : StepOutcome := command .rdLna rdLnaBody s

/-- `RD_MARGIN` (R177). -/
def execRdMargin (s : State) : StepOutcome := command .rdMargin rdMarginBody s

/-- `RD_FREQ` (R177). -/
def execRdFreq (s : State) : StepOutcome := command .rdFreq rdFreqBody s

/-- `RD_TXPOW` (R177). -/
def execRdTxPow (s : State) : StepOutcome := command .rdTxPow rdTxPowBody s

end Sys2Proof.Machine
end

