-- ==== Sys2Proof/Machine/Dispatch.lean ====
section
/-! DEFINITION. One arm per host command (R61), each a direct call of its meaning. -/

namespace Sys2Proof.Machine

/-- The meaning of a host command. -/
def exec (i : Instr) (s : State) : Host.Outcome State Fault Refusal :=
  match i with
  | .init id group freq => Sys2Proof.Machine.execInit id group freq s
  | .send flags destId payload => Sys2Proof.Machine.execSend flags destId payload s
  | .receive len => Sys2Proof.Machine.execReceive len s
  | .getAck len => Sys2Proof.Machine.execGetAck len s
  | .readAck len => Sys2Proof.Machine.execReadAck len s
  | .txPower dBm => Sys2Proof.Machine.execTxPower dBm s
  | .adjustPow margin target => Sys2Proof.Machine.execAdjustPow margin target s
  | .adjustFreq => Sys2Proof.Machine.execAdjustFreq s
  | .sleep => Sys2Proof.Machine.execSleep s
  | .addInfo => Sys2Proof.Machine.execAddInfo s
  | .modeReady => Sys2Proof.Machine.execModeReady s
  | .rdRssi => Sys2Proof.Machine.execRdRssi s
  | .rdFe => Sys2Proof.Machine.execRdFe s
  | .rdLna => Sys2Proof.Machine.execRdLna s
  | .rdMargin => Sys2Proof.Machine.execRdMargin s
  | .rdFreq => Sys2Proof.Machine.execRdFreq s
  | .rdTxPow => Sys2Proof.Machine.execRdTxPow s

end Sys2Proof.Machine
end

