-- ==== Sys2Proof/Machine/Step.lean ====
section
/-! DEFINITION. One step of the block: take the next frame from the command port and run it (R30, R60). -/

namespace Sys2Proof.Machine

/-- One step. Where the port holds no complete frame the block waits and nothing changes (R30, R61, R230, log entry 1);
a frame of an unlisted opcode raises `IllegalCommand` (R204); a command runs. -/
def step (s : State) : Host.Outcome State Fault Refusal :=
  match fetch s with
  | .idle => .next s
  | .illegal op t => illegalCommand op t
  | .command i t => exec i t

/-- The state with the opcode table's number `w` of `nbits` bits as the next frame on the port (log entries 1
and 21). -/
def State.withFetchWord (s : State) (nbits w : Nat) : State := s.setInbox (frameOf (tableBytes nbits w))

end Sys2Proof.Machine
end

