-- ==== Sys2Proof/Machine/Defaults.lean ====
section
/-! DEFINITION. The defaults the spec gives for parameters of R6 (93_implementation_defined.md G1 to G8). They are not
claims about the hardware ("The defaults ... are there so that vectors can be written", 93 section 1) and the machine does
not use them: `Config.chip` stays open (log entries 3 and 17). -/

namespace Sys2Proof.Machine

/-- The default `REG_ADDR` (R43, G1). PRESUMED. -/
def defaultRegAddr : Reg → Byte
  | .fifo => 0x00
  | .opMode => 0x01
  | .frfMsb => 0x07
  | .frfMid => 0x08
  | .frfLsb => 0x09
  | .paLevel => 0x11
  | .lna => 0x18
  | .afcMsb => 0x1F
  | .afcLsb => 0x20
  | .rssiValue => 0x24
  | .irqFlags1 => 0x27
  | .irqFlags2 => 0x28
  | .rxTimeout1 => 0x2A
  | .rxTimeout2 => 0x2B
  | .syncValue1 => 0x2F
  | .syncValue2 => 0x30

/-- The default `MODE_CODE` (R6, R65, G2). PRESUMED. -/
def defaultModeCode : Mode → BitVec 3
  | .sleep => 0
  | .standby => 1
  | .freqSynth => 2
  | .transmit => 3
  | .receive => 4

/-- The default `PARITY_FN`: `p1 = (g ^ (g << 4)) & 0xFF`, then `(p1 ^ (p1 << 2)) & 0xC0` (R110, G6). PRESUMED. -/
def defaultParityByte (g : Byte) : Byte := ((g ^^^ (g <<< 4)) ^^^ ((g ^^^ (g <<< 4)) <<< 2)) &&& 0xC0

/-- The suggested `PA_LEVEL_WRITES` of PA_LOW, `[(PaLevel, 0x80 | (p + 18))]` (R150, G8). PRESUMED. -/
def suggestedPaLowWrites (p : Int) : List (WriteTarget × Byte) := [(.named .paLevel, 0x80 ||| BitVec.ofInt 8 (p + 18))]

/-- A configuration with the default of every parameter R6 gives one for; the OPEN ones stay as they are. -/
def withDefaults (c : Config) : Config :=
  { c with
    regAddr := defaultRegAddr
    modeCode := defaultModeCode
    irq1SyncBit := 0
    irq1ModeReadyBit := 7
    irq1TimeoutBit := 2
    irq2PayloadReadyBit := 2
    irq2PacketSentBit := 3
    lnaShift := 3
    rssiDivisorPred := 1
    feSign := .minus
    parityFn := fun g => topTwo (defaultParityByte g)
    catchallIgnoresParity := true
    ackFlagCheck := false
    nonceReg := .syncValue1
    syncGroupReg := .syncValue2 }

end Sys2Proof.Machine
end

