-- ==== Sys2Proof/Machine/Parametric.lean ====
section
/-! DEFINITION. The same machine over ANY configuration: `execWith c` and `stepWith c` run the bodies of the meanings with
the parameters of R6 as an argument. `exec` and `step` are these at `Config.chip` (Laws/Parametric.lean). A run whose
parameters are known (the vectors of spec/95_test_vectors.md) is evaluated with them. -/

namespace Sys2Proof.Machine

/-- The command's sequence over the configuration `c` (R61). -/
def bodyOf (c : Config) : Instr → Cmd Result
  | .init id group freq => initBody c id group freq
  | .send flags destId payload => sendBody c flags destId payload
  | .receive len => receiveBody c len
  | .getAck len => getAckBody c len
  | .readAck len => readAckCommandBody c len
  | .txPower dBm => txPowerBody c dBm
  | .adjustPow margin target => adjustPowBody c margin target
  | .adjustFreq => adjustFreqBody c
  | .sleep => sleepBody c
  | .addInfo => addInfoBody c
  | .modeReady => modeReadyBody c
  | .rdRssi => rdRssiBody
  | .rdFe => rdFeBody
  | .rdLna => rdLnaBody
  | .rdMargin => rdMarginBody
  | .rdFreq => rdFreqBody
  | .rdTxPow => rdTxPowBody

/-- The meaning of a command over the configuration `c`. -/
def execWith (c : Config) (i : Instr) (s : State) : StepOutcome := command i (bodyOf c i) s

/-- One step over the configuration `c`. -/
def stepWith (c : Config) (s : State) : StepOutcome :=
  match fetch s with
  | .idle => .next s
  | .illegal op t => illegalCommand op t
  | .command i t => execWith c i t

end Sys2Proof.Machine
end

