-- ==== Sys2Proof/Safety.lean ====
section
/-! DEFINITION. The terms the claims are stated in: the state after each shared operation written out field by field, the
transactions of a history, what a finished run is (R248), and the invariant of the block (R26, R27, R28, R36, R105, R136,
R202). -/

namespace Sys2Proof.Machine

/-! ## States after an operation -/

/-- After `RegRead(r)`: H gains the read with its answer, and the next answer is the one after it. -/
def State.afterRead (c : Config) (r : Reg) (s : State) : State :=
  { s with
    history := s.history ++ [.transaction (.regRead (c.regAddr r) (s.answer 0))]
    regAnswers := s.regAnswers.tail
    regReads := s.regReads + 1 }

/-- After `RegWrite(r, v)`: H gains the write. -/
def State.afterWrite (c : Config) (r : Reg) (v : Byte) (s : State) : State :=
  { s with history := s.history ++ [.transaction (.regWrite (c.regAddr r) v)] }

/-- After `FifoRead(n)`: H gains the burst with its answer, and the packet is consumed (R46). -/
def State.afterFifoRead (c : Config) (n : Nat) (s : State) : State :=
  { s with
    history := s.history ++ [.transaction (.fifoRead (c.regAddr .fifo) n s.packetCount (s.packetData n))]
    packets := s.packets.tail
    fifoReads := s.fifoReads + 1 }

/-- After `FifoWrite(bytes)`: H gains the burst (R47). -/
def State.afterFifoWrite (c : Config) (bytes : List Byte) (s : State) : State :=
  { s with history := s.history ++ [.transaction (.fifoWrite (c.regAddr .fifo) bytes)] }

/-- After `setMode(m)` (R100). -/
def State.afterSetMode (c : Config) (m : Mode) (s : State) : State :=
  { s with
    mode := some m
    history := s.history ++ [.transaction (.regWrite (c.regAddr .opMode) (opModeByte c m))] }

/-- After the three frequency writes of `hz` Hz (R116). -/
def State.afterFrequency (c : Config) (hz : Nat) (s : State) : State :=
  { s with
    currentFrequency := some (BitVec.ofNat 32 hz)
    history := s.history ++
      [.transaction (.regWrite (c.regAddr .frfMsb) (frfMsb hz)),
       .transaction (.regWrite (c.regAddr .frfMid) (frfMid hz)),
       .transaction (.regWrite (c.regAddr .frfLsb) (frfLsb hz))] }

/-- After `txPower(p)` (R151). -/
def State.afterTxPower (c : Config) (p : Int) (s : State) : State :=
  { s with
    txPowerDbm := some (clamp p (txLo c) (txHi c))
    history := s.history ++
      (c.paLevelWrites (clamp p (txLo c) (txHi c))).map fun w => .transaction (.regWrite (targetAddr c w.1) w.2) }

/-- A sync edge is seen: the flag is set in the next `IrqFlags1` answer and was not set before (R130). -/
def State.edgeSeen (c : Config) (last : Bool) (s : State) : Bool := syncMatch c (s.answer 0) && !last

/-- After `syncCheck()` where `S.lastSync` was `last`: the `IrqFlags1` read, and on an edge the four capture reads and
the three metrics (R130). -/
def State.afterSyncCheck (c : Config) (last : Bool) (s : State) : State :=
  if s.edgeSeen c last then
    { s with
      rssiRaw := some (s.answer 1)
      lnaGainDb := some (lnaGain c (s.answer 2))
      frequencyErrorHz := some (afcToHz c (s.answer 3 ++ s.answer 4))
      lastSync := some true
      history := s.history ++
        [.transaction (.regRead (c.regAddr .irqFlags1) (s.answer 0)),
         .transaction (.regRead (c.regAddr .rssiValue) (s.answer 1)),
         .transaction (.regRead (c.regAddr .lna) (s.answer 2)),
         .transaction (.regRead (c.regAddr .afcMsb) (s.answer 3)),
         .transaction (.regRead (c.regAddr .afcLsb) (s.answer 4))]
      regAnswers := s.regAnswers.drop 5
      regReads := s.regReads + 5 }
  else
    { s with
      lastSync := some (syncMatch c (s.answer 0))
      history := s.history ++ [.transaction (.regRead (c.regAddr .irqFlags1) (s.answer 0))]
      regAnswers := s.regAnswers.drop 1
      regReads := s.regReads + 1 }

/-- After the three transactions of `readPayload(n)`, before its metrics are written (R134). -/
def State.afterPayloadReads (c : Config) (n : Nat) (s : State) : State :=
  { s with
    history := s.history ++
      [.transaction (.regRead (c.regAddr .rssiValue) (s.answer 0)),
       .transaction (.fifoRead (c.regAddr .fifo) n s.packetCount (s.packetData n)),
       .transaction (.regRead (c.regAddr .rssiValue) (s.answer 1))]
    regAnswers := s.regAnswers.drop 2
    regReads := s.regReads + 2
    packets := s.packets.tail
    fifoReads := s.fifoReads + 1 }

/-- After `readPayload(n)` where `S.rssiRaw` is `r`: the three transactions and the two metrics (R134). -/
def State.afterPayload (c : Config) (n : Nat) (r : Byte) (s : State) : State :=
  { s.afterPayloadReads c n with
    snrDb := some (snrOf c (s.answer 0) (s.answer 1) r)
    marginDb := some (linkMargin (snrOf c (s.answer 0) (s.answer 1) r)) }

/-- After a command returns `r`: H gains the command with its result (R32), after the transactions the command has issued
(DESIGN CHOICE, log entry 22). -/
def State.returning (i : Instr) (r : Result) (s : State) : State :=
  { s with history := s.history ++ [.returned i r] }

/-- The command raised `f`: nothing but the record changes (R201). -/
def State.faulting (f : Fault) (s : State) : State := { s with fault := some f }

/-- The entries of `k` attempts of the presence check with the sentinel `v`, from the answer `from_` on (R170). -/
def nonceEvents (c : Config) (v : Byte) (s : State) (from_ k : Nat) : List Event :=
  (List.range k).flatMap fun j =>
    [.transaction (.regWrite (c.regAddr c.nonceReg) v),
     .transaction (.regRead (c.regAddr c.nonceReg) (s.answer (from_ + j)))]

/-- The first of `k` read-backs, from the answer `from_` on, that equals the sentinel `v` (R170, R171). -/
def firstMatch (v : Byte) (s : State) (from_ k : Nat) : Option Nat :=
  (List.range k).find? fun j => s.answer (from_ + j) == v

/-- After `k` attempts of the presence check with the sentinel `v` (R170). -/
def State.afterAttempts (c : Config) (v : Byte) (k : Nat) (s : State) : State :=
  { s with
    history := s.history ++ nonceEvents c v s 0 k
    regAnswers := s.regAnswers.drop k
    regReads := s.regReads + k }

/-- INIT's identity writes (R170). -/
def State.withIdentity (c : Config) (id group : Byte) (s : State) : State :=
  { s with nodeId := some (lowSix id), groupParity := some (groupParityOf c group) }

/-- After INIT's table and Sleep writes (R170). -/
def State.afterTable (c : Config) (s : State) : State :=
  { s with
    mode := some .sleep
    history := s.history ++ (c.configTable.map fun w => .transaction (.regWrite w.1 w.2)) ++
      [.transaction (.regWrite (c.regAddr .opMode) (opModeByte c .sleep))] }

/-- After `adjustPow(margin, target)` where `S.txPowerDbm` is `p` (R152). -/
def State.afterAdjustPow (c : Config) (margin target p : Int) (s : State) : State :=
  if margin - target > 4 then s.afterTxPower c (p - (margin - target + 2) / 4)
  else if margin - target > 0 then s.afterTxPower c (p - 1)
  else if margin - target < 0 then s.afterTxPower c (p + (target - margin))
  else s

/-- The frequency adjustFreq asks for, from the error `fe` and the current frequency `cur`, before any check (R153). -/
def correctedFrequency (c : Config) (fe : Int) (cur : Hz32) : Int := (cur.toNat : Int) + freqCorrection c fe

/-- adjustFreq's new frequency raises neither of its faults (R116, R153, R209). -/
def correctionFits (c : Config) (fe : Int) (cur : Hz32) : Prop :=
  1 ≤ correctedFrequency c fe cur ∧ correctedFrequency c fe cur ≤ 2 ^ 32 - 1 ∧
    scaledHz (correctedFrequency c fe cur).toNat < freqCeilingHz

/-- The frequency adjustFreq's `FreqOutOfRange` carries where the correction does not fit: the corrected frequency where it
lies outside 1..2^32-1, else its scaled value (R153, R209). -/
def refusedFrequency (c : Config) (fe : Int) (cur : Hz32) : Int :=
  if correctedFrequency c fe cur < 1 ∨ 2 ^ 32 - 1 < correctedFrequency c fe cur then correctedFrequency c fe cur
  else scaledHz (correctedFrequency c fe cur).toNat

/-- After `adjustFreq()` where it raises no fault (R153). -/
def State.afterAdjustFreq (c : Config) (fe : Int) (cur : Hz32) (s : State) : State :=
  s.afterFrequency c (scaledHz (correctedFrequency c fe cur).toNat)

/-- The receive filter for a node `me` of parity `p`, on a packet's length byte and destination byte (R113). -/
def dataAccepted (c : Config) (p : BitVec 2) (me : BitVec 6) (count dest : Byte) : Prop :=
  2 ≤ count.toNat ∧ count.toNat ≤ 64 ∧
    ((c.catchallIgnoresParity = true ∧ me = 63) ∨
      (dest.extractLsb' 6 2 = p ∧ (dest.extractLsb' 0 6 = me ∨ dest.extractLsb' 0 6 = 0 ∨ me = 63)))

/-- The ack filter for a node `me` of parity `p`, on a packet's length byte and its two header bytes (R114). -/
def ackAccepted (c : Config) (p : BitVec 2) (me : BitVec 6) (count dest src : Byte) : Prop :=
  2 ≤ count.toNat ∧ count.toNat ≤ 64 ∧ dest.extractLsb' 6 2 = p ∧ dest.extractLsb' 0 6 = me ∧
    (c.ackFlagCheck = true → src.getLsbD 6 = true)

/-- An accepted packet's trailer was delivered whole (R118, R176). -/
def trailerDelivered (count len : Byte) : Prop := 4 ≤ count.toNat ∧ count.toNat ≤ len.toNat

/-- After both loops have taken the peer's margin `t0` (R175, R176), where the frequency loop raises no fault. -/
def State.afterAdaptation (c : Config) (t0 : Byte) (fe : Int) (cur : Hz32) (pow : Int) (s : State) : State :=
  if c.powerControlEnabled then
    (s.afterAdjustFreq c fe cur).afterAdjustPow c t0.toInt c.targetMarginDb.toInt pow
  else s.afterAdjustFreq c fe cur

/-- After a successful INIT's last writes: the group, and the fields of R36's last column (R170). -/
def State.linkUp (c : Config) (group : Byte) (s : State) : State :=
  { s with
    linkState := .ready
    txPowerDbm := some (txPowerInitDbm c)
    rssiRaw := none
    lnaGainDb := none
    frequencyErrorHz := none
    snrDb := none
    marginDb := none
    lastSync := some false
    history := s.history ++ [.transaction (.regWrite (c.regAddr c.syncGroupReg) group)] }

/-! ## Histories -/

/-- The entry is a transaction. -/
def Event.isTransaction : Event → Bool
  | .transaction _ => true
  | .returned _ _ => false

/-- How many transactions a history holds (R179). -/
def transactionCount (h : List Event) : Nat := h.countP Event.isTransaction

/-- `|PA_LEVEL_WRITES|` of R179, over the domain `TX_RANGE(PA_VARIANT)` that R150 gives the function.
DESIGN CHOICE (log entry 23, unsafe): the spec does not define the size of a function's lists; here it is the length of the
longest list for a power of that range. -/
def maxPaWrites (c : Config) : Nat :=
  ((List.range (txHi c - txLo c + 1).toNat).map fun (k : Nat) => (c.paLevelWrites (txLo c + k)).length).foldr max 0

/-- The transaction bound of each command (R179; `|PA_LEVEL_WRITES|` as log entry 23 reads it). -/
def transactionBound (c : Config) : Instr → Nat
  | .init _ _ _ => 4 * nonceRetries c + c.configTable.length + 5
  | .send _ _ _ => 3
  | .receive _ => 9
  | .getAck _ => 9 + 3 + maxPaWrites c
  | .readAck _ => 3 + 3 + maxPaWrites c
  | .txPower _ => maxPaWrites c
  | .adjustPow _ _ => maxPaWrites c
  | .adjustFreq => 3
  | .sleep => 1
  | .modeReady => 1
  | .addInfo => 0
  | .rdRssi => 0
  | .rdFe => 0
  | .rdLna => 0
  | .rdMargin => 0
  | .rdFreq => 0
  | .rdTxPow => 0

/-- The results a history holds, oldest first (R32). -/
def resultsOf (h : List Event) : List Result :=
  h.filterMap fun
    | .transaction _ => none
    | .returned _ r => some r

/-- The result type of each command (R62). -/
def resultInRange (c : Config) : Instr → Result → Prop
  | .init _ _ _, r => r = .success ∨ r = .failure
  | .send _ _ _, r => r = .nothing
  | .receive _, r => ∃ n d, r = .poll n d ∧ (n = -1 ∨ (2 ≤ n ∧ n ≤ 64))
  | .getAck _, r => ∃ n d, r = .poll n d ∧ (n = -1 ∨ n = 0 ∨ (2 ≤ n ∧ n ≤ 64))
  | .readAck _, r => ∃ n d, r = .poll n d ∧ (n = 0 ∨ (2 ≤ n ∧ n ≤ 64))
  | .txPower _, r => r = .nothing
  | .adjustPow _ _, r => r = .nothing
  | .adjustFreq, r => r = .nothing
  | .sleep, r => r = .nothing
  | .addInfo, r => ∃ t0 t1, r = .trailer t0 t1
  | .modeReady, r => ∃ b, r = .flag b
  | .rdRssi, r => ∃ v, r = .value v ∧ 0 ≤ v ∧ v ≤ 255
  | .rdFe, r => ∃ v, r = .value v
  | .rdLna, r => ∃ v, r = .value v ∧ v ∈ [0, 6, 12, 24, 36, 48]
  | .rdMargin, r => ∃ v, r = .value v ∧ -13 ≤ v
  | .rdFreq, r => ∃ v, r = .value v ∧ 0 ≤ v ∧ v < 2 ^ 32
  | .rdTxPow, r => ∃ v, r = .value v ∧ txLo c ≤ v ∧ v ≤ txHi c

/-! ## Runs and the invariant -/

/-- A sequence of commands, each given to the block after the one before it has ended (R11, R48). -/
def execAll : List Instr → State → StepOutcome
  | [], s => .next s
  | i :: is, s =>
    match exec i s with
    | .next t => execAll is t
    | .fault f => .fault f
    | .refused r => .refused r

/-- A run may end here: its last command did not fault (R201, R248). -/
def State.finished (s : State) : Prop := s.fault = none

/-- A Ready block has written every field but the five metrics (R202, R36). -/
def State.readyWritten (s : State) : Prop :=
  s.linkState = .ready →
    s.mode.isSome ∧ s.nodeId.isSome ∧ s.groupParity.isSome ∧ s.currentFrequency.isSome ∧ s.txPowerDbm.isSome ∧
      s.lastSync.isSome

/-- "`S.currentFrequency ≥ 100,000,000`" (R26), and below the 24-bit limit (R67). -/
def State.frequencyInRange (s : State) : Prop :=
  ∀ f, s.currentFrequency = some f → freqFloorHz ≤ f.toNat ∧ f.toNat < freqCeilingHz

/-- `TX_RANGE(PA_VARIANT).lo ≤ S.txPowerDbm ≤ TX_RANGE(PA_VARIANT).hi` (R27, R154). -/
def State.powerInRange (c : Config) (s : State) : Prop :=
  ∀ p, s.txPowerDbm = some p → txLo c ≤ p ∧ p ≤ txHi c

/-- The sync-edge metrics lie in the ranges of R28 and R136. -/
def State.syncMetricsInRange (s : State) : Prop :=
  (∀ g, s.lnaGainDb = some g → g ∈ [0, 6, 12, 24, 36, 48]) ∧
    ∀ e, s.frequencyErrorHz = some e → ∃ k : Int, e = 61 * k ∧ -32768 ≤ k ∧ k ≤ 32768

/-- The payload-ready metrics lie in the ranges of R28 and R136: the margin is the SNR less 13. -/
def State.payloadMetricsInRange (s : State) : Prop :=
  (∀ n, s.snrDb = some n → n ≤ 255) ∧ ∀ m, s.marginDb = some m → ∃ n, s.snrDb = some n ∧ m = (n : Int) - 13

/-- Each of the two write sets of R137 is written as a whole, the payload-ready set only after the sync-edge set (R134). -/
def State.metricsTogether (s : State) : Prop :=
  (s.rssiRaw.isSome ↔ s.lnaGainDb.isSome) ∧ (s.rssiRaw.isSome ↔ s.frequencyErrorHz.isSome) ∧
    (s.snrDb.isSome ↔ s.marginDb.isSome) ∧ (s.snrDb.isSome → s.rssiRaw.isSome)

/-- The invariant of the block over the configuration `c`. -/
structure State.Inv (c : Config) (s : State) : Prop where
  readyWritten : s.readyWritten
  frequencyInRange : s.frequencyInRange
  powerInRange : s.powerInRange c
  syncMetricsInRange : s.syncMetricsInRange
  payloadMetricsInRange : s.payloadMetricsInRange
  metricsTogether : s.metricsTogether
  /-- No command records Standby (R105). -/
  notStandby : s.mode ≠ some .standby

end Sys2Proof.Machine
end

