-- ==== Sys2Proof/Certificates/Slice0/Obligations.lean ====
section
/-! DEFINITION. The statements for the provers. Each docstring names the rule of spec/ it formalises. A state on the
right side is one of Safety.lean's, written out there field by field, so that each equation `= .next …` is also the
command's frame. `State.returning` puts a command's entry in H after the command's own transactions: R32 does not place
it, and this is the model's choice (log entry 22). -/

open Sys2Proof Sys2Proof.Machine

/-! ## Encoding -/

/-- R60, R61: decoding the frame of a command, whatever follows it, gives the command and what follows; every argument at
every value the frame admits. -/
def Obligations.DecodeOfEncodeIsTheCommand : Prop :=
  ∀ (i : Instr) (rest : List Byte), i.encodable = true → decode (encode i ++ rest) = .command i rest

/-- R60, R61: the decoder answers a command only for that command's own frame. -/
def Obligations.DecodedBytesAreTheCommandsFrame : Prop :=
  ∀ (bytes rest : List Byte) (i : Instr), decode bytes = .command i rest →
    bytes = encode i ++ rest ∧ i.encodable = true

/-- R61: "A frame shorter than its length is not a command". -/
def Obligations.ShortFrameIsNotACommand : Prop :=
  ∀ (i : Instr) (k : Nat), i.encodable = true → k < (encode i).length → decode ((encode i).take k) = .incomplete

/-- R61: frames written out from the opcode map decode to the commands they stand for. -/
def Obligations.HandWrittenFramesDecode : Prop :=
  decode [0x01, 0x05, 0x06, 0x00, 0x00, 0x03, 0x64] = .command (.init 5 6 868) [] ∧
  decode [0x02, 0x89, 0x01, 0x41] = .command (.send 2 9 [0x41]) [] ∧
  decode [0x04, 0x40] = .command (.getAck 64) [] ∧
  decode [0x07, 0x14, 0x0A] = .command (.adjustPow 20 10) [] ∧
  decode [0x09] = .command .sleep [] ∧
  decode [0x15] = .command .rdTxPow []

/-- R204: an opcode byte outside the map raises `IllegalCommand(op)`, before any check or transaction. How many bytes of
the port the frame takes is the model's choice (log entry 9) and left open here. -/
def Obligations.UnlistedOpcodeRaisesIllegalCommand : Prop :=
  ∀ (s : State) (op : Byte) (args : List Byte), s.fault = none → s.inbox = op :: args →
    (op.toNat = 0 ∨ (0x0C ≤ op.toNat ∧ op.toNat ≤ 0x0F) ∨ 0x16 ≤ op.toNat) →
    ∃ rest, step s = .next ((s.setInbox rest).faulting (.illegalCommand op))

/-! ## Steps and reset -/

/-- R30, R60: a step with a complete frame at the head of the port runs that command, on the state with the frame taken;
the step adds nothing else. -/
def Obligations.StepRunsTheDecodedCommand : Prop :=
  ∀ (s : State) (i : Instr) (rest : List Byte), decode s.inbox = .command i rest →
    step s = exec i { s with inbox := rest }

/-- R30, R61 (and log entry 1, the model's choice): with no complete frame on the port, the block waits unchanged. -/
def Obligations.IncompleteFrameLeavesTheBlockWaiting : Prop :=
  ∀ s : State, decode s.inbox = .incomplete → step s = .next s

/-- R230: what reset leaves, and that the block then waits for the first command. -/
def Obligations.ResetLeavesTheBlockUninitAndUnwritten : Prop :=
  State.reset.linkState = .uninit ∧ State.reset.fault = none ∧ State.reset.history = [] ∧
  State.reset.mode = none ∧ State.reset.nodeId = none ∧ State.reset.groupParity = none ∧
  State.reset.currentFrequency = none ∧ State.reset.txPowerDbm = none ∧ State.reset.rssiRaw = none ∧
  State.reset.lnaGainDb = none ∧ State.reset.frequencyErrorHz = none ∧ State.reset.snrDb = none ∧
  State.reset.marginDb = none ∧ State.reset.lastSync = none ∧ step State.reset = .next State.reset

/-! ## Mode Controller -/

/-- R101: SLEEP writes the mode register and records Sleep, and changes no other field of the block; before init it
raises `NotReady`.
Log entry 22, the model's choice: the result's entry in H comes after the transactions. -/
def Obligations.SleepRecordsSleepAndKeepsTheRest : Prop :=
  encode .sleep = [0x09] ∧
  ∀ s : State, s.fault = none →
    (s.linkState = .ready →
      exec .sleep s = .next ((s.afterSetMode Config.chip .sleep).returning .sleep .nothing)) ∧
    (s.linkState ≠ .ready → exec .sleep s = .next (s.faulting .notReady))

/-- R103: MODEREADY reads `IrqFlags1` once, answers its mode-ready bit, and writes no field of the block.
Log entry 22, the model's choice: the result's entry in H comes after the transactions. -/
def Obligations.ModeReadyAnswersTheFlag : Prop :=
  encode .modeReady = [0x0B] ∧
  ∀ s : State, s.fault = none →
    (s.linkState = .ready →
      exec .modeReady s = .next ((s.afterRead Config.chip .irqFlags1).returning .modeReady
        (.flag ((s.answer 0).getLsbD Config.chip.irq1ModeReadyBit.val)))) ∧
    (s.linkState ≠ .ready → exec .modeReady s = .next (s.faulting .notReady))

/-! ## SEND -/

/-- R172, R112: SEND records FreqSynth, stages the frame `[len + 2, parity:destId, flags:nodeId, payload...]`, and records
Transmit; a payload over 62 bytes raises `BadArgument` before any transaction; before init it raises `NotReady`.
Log entry 22, the model's choice: the result's entry in H comes after the transactions. -/
def Obligations.SendStagesTheFrameBetweenTwoModes : Prop :=
  ∀ (s : State) (flags : BitVec 2) (destId : BitVec 6) (payload : List Byte), s.fault = none →
    (s.linkState = .ready → payload.length ≤ 62 → ∀ (p : BitVec 2) (me : BitVec 6),
      s.groupParity = some p → s.nodeId = some me →
      exec (.send flags destId payload) s = .next
        ((((s.afterSetMode Config.chip .freqSynth).afterFifoWrite Config.chip
            (BitVec.ofNat 8 (payload.length + 2) :: (p ++ destId) :: (flags ++ me) :: payload)).afterSetMode
            Config.chip .transmit).returning (.send flags destId payload) .nothing)) ∧
    (s.linkState = .ready → 62 < payload.length →
      exec (.send flags destId payload) s = .next (s.faulting (.badArgument 0x02))) ∧
    (s.linkState ≠ .ready → exec (.send flags destId payload) s = .next (s.faulting .notReady)) ∧
    (payload.length ≤ 62 → (encode (.send flags destId payload)).head? = some 0x02 ∧
      (encode (.send flags destId payload)).length = 3 + payload.length)

/-! ## Adaptation -/

/-- R151: TXPOWER clamps its signed byte to `TX_RANGE`, issues the writes of `PA_LEVEL_WRITES`, and records the clamped
power; so does the internal operation for any integer.
Log entry 22, the model's choice: the result's entry in H comes after the transactions. -/
def Obligations.TxPowerWritesTheClampedPower : Prop :=
  (∀ (s : State) (p : Int), txPower Config.chip p s = .ok () (s.afterTxPower Config.chip p)) ∧
  ∀ (s : State) (dBm : Byte), s.fault = none →
    (s.linkState = .ready →
      exec (.txPower dBm) s = .next ((s.afterTxPower Config.chip dBm.toInt).returning (.txPower dBm) .nothing)) ∧
    (s.linkState ≠ .ready → exec (.txPower dBm) s = .next (s.faulting .notReady)) ∧
    encode (.txPower dBm) = [0x06, dBm]

/-- R152: ADJUSTPOW's four cases by `e = margin - target`: above 4, above 0, below 0, and nothing at equality.
Log entry 22, the model's choice: the result's entry in H comes after the transactions. -/
def Obligations.AdjustPowFollowsTheFourCases : Prop :=
  ∀ (s : State) (margin target : Byte), s.fault = none →
    (s.linkState = .ready → ∀ p : Int, s.txPowerDbm = some p →
      exec (.adjustPow margin target) s = .next
        ((if margin.toInt - target.toInt > 4 then
            s.afterTxPower Config.chip (p - (margin.toInt - target.toInt + 2) / 4)
          else if margin.toInt - target.toInt > 0 then s.afterTxPower Config.chip (p - 1)
          else if margin.toInt - target.toInt < 0 then
            s.afterTxPower Config.chip (p + (target.toInt - margin.toInt))
          else s).returning (.adjustPow margin target) .nothing)) ∧
    (s.linkState ≠ .ready → exec (.adjustPow margin target) s = .next (s.faulting .notReady)) ∧
    encode (.adjustPow margin target) = [0x07, margin, target]

/-- R153, R209: ADJUSTFREQ adds the quarter of the error, truncated toward zero and clamped to a quarter of the channel
bandwidth, and programs the scaled sum; a sum outside 1..2^32-1, or one whose scaled value reaches 1,024,000,000, raises
`FreqOutOfRange` before any write.
Log entry 22, the model's choice: the result's entry in H comes after the transactions. -/
def Obligations.AdjustFreqProgramsTheCorrectedFrequency : Prop :=
  encode .adjustFreq = [0x08] ∧
  ∀ s : State, s.fault = none →
    (s.linkState = .ready → ∀ (fe new : Int) (cur : Hz32), s.frequencyErrorHz = some fe →
      s.currentFrequency = some cur →
      new = (cur.toNat : Int) + min ((Config.chip.channelBwHz / 4 : Nat) : Int)
        (max (-((Config.chip.channelBwHz / 4 : Nat) : Int)) (Int.tdiv fe 4)) →
      (new < 1 ∨ 2 ^ 32 - 1 < new → exec .adjustFreq s = .next (s.faulting (.freqOutOfRange new))) ∧
      (1 ≤ new → new ≤ 2 ^ 32 - 1 → 1024000000 ≤ scaledHz new.toNat →
        exec .adjustFreq s = .next (s.faulting (.freqOutOfRange (scaledHz new.toNat)))) ∧
      (1 ≤ new → new ≤ 2 ^ 32 - 1 → scaledHz new.toNat < 1024000000 →
        exec .adjustFreq s = .next
          ((s.afterFrequency Config.chip (scaledHz new.toNat)).returning .adjustFreq .nothing))) ∧
    (s.linkState = .ready → s.frequencyErrorHz = none →
      exec .adjustFreq s = .next (s.faulting (.unwritten .frequencyErrorHz))) ∧
    (s.linkState ≠ .ready → exec .adjustFreq s = .next (s.faulting .notReady))

/-- R155: ADDINFO answers the margin as a clamped two's-complement byte and `FE_INFO_CODE` of the error; it writes no
field and issues no transaction. -/
def Obligations.AddInfoAnswersTheTrailer : Prop :=
  encode .addInfo = [0x0A] ∧
  ∀ s : State, s.fault = none →
    (s.linkState = .ready → ∀ m fe : Int, s.marginDb = some m → s.frequencyErrorHz = some fe →
      exec .addInfo s = .next (s.returning .addInfo
        (.trailer (BitVec.ofInt 8 (min 127 (max (-128) m))) (Config.chip.feInfoCode fe)))) ∧
    (s.linkState = .ready → s.marginDb = none → exec .addInfo s = .next (s.faulting (.unwritten .marginDb))) ∧
    (s.linkState = .ready → s.marginDb.isSome → s.frequencyErrorHz = none →
      exec .addInfo s = .next (s.faulting (.unwritten .frequencyErrorHz))) ∧
    (s.linkState ≠ .ready → exec .addInfo s = .next (s.faulting .notReady))

/-- R115, R206: `scaleFreq` multiplies by 10 until the floor of 100 MHz is reached and no further; 0 raises
`FreqZeroHang`. -/
def Obligations.ScaleFreqStopsAtTheFloor : Prop :=
  (∀ (f : Nat) (s : State), 0 < f → scaleFreq f s = .ok (scaledHz f) s ∧
    ∃ k, scaledHz f = f * 10 ^ k ∧ 100000000 ≤ scaledHz f ∧ (∀ j, j < k → f * 10 ^ j < 100000000) ∧
      (f < 100000000 → scaledHz f ≤ 999999999) ∧ (100000000 ≤ f → scaledHz f = f)) ∧
  ∀ s : State, scaleFreq 0 s = .error .freqZeroHang (s.faulting .freqZeroHang)

/-- R117: the three written bytes decode to within one encoding step below the frequency. -/
def Obligations.FrequencyBytesDecodeWithinOneStep : Prop :=
  ∀ hz : Nat, 100000000 ≤ hz → hz < 1024000000 →
    0 ≤ (hz : ℚ) - ((frfMsb hz ++ frfMid hz ++ frfLsb hz).toNat : ℚ) * 32000000 / 2 ^ 19 ∧
    (hz : ℚ) - ((frfMsb hz ++ frfMid hz ++ frfLsb hz).toNat : ℚ) * 32000000 / 2 ^ 19 < 32000000 / 2 ^ 19

/-- R154: no sequence of ADJUSTPOW commands takes the power out of `TX_RANGE`, every such sequence completes, and the
frequency correction never exceeds a quarter of the bandwidth in either direction. -/
def Obligations.AdjustPowSequencesStayInRange : Prop :=
  (∀ (cmds : List (Byte × Byte)) (s : State), s.fault = none → s.linkState = .ready → s.txPowerDbm.isSome →
    s.powerInRange Config.chip →
    ∃ t, execAll (cmds.map fun mt => .adjustPow mt.1 mt.2) s = .next t ∧ t.fault = none ∧ t.txPowerDbm.isSome ∧
      t.powerInRange Config.chip) ∧
  ∀ fe : Int, -((Config.chip.channelBwHz / 4 : Nat) : Int) ≤ freqCorrection Config.chip fe ∧
    freqCorrection Config.chip fe ≤ ((Config.chip.channelBwHz / 4 : Nat) : Int)

/-! ## Telemetry -/

/-- R177: each telemetry read answers its field's value, or raises `Unwritten(field)` where it holds none; it writes no
field and issues no transaction. -/
def Obligations.TelemetryAnswersTheSnapshot : Prop :=
  (encode .rdRssi = [0x10] ∧ encode .rdFe = [0x11] ∧ encode .rdLna = [0x12] ∧ encode .rdMargin = [0x13] ∧
    encode .rdFreq = [0x14] ∧ encode .rdTxPow = [0x15]) ∧
  (∀ s : State, s.fault = none → s.linkState = .ready →
    (∀ b, s.rssiRaw = some b → exec .rdRssi s = .next (s.returning .rdRssi (.value b.toNat))) ∧
    (∀ v, s.frequencyErrorHz = some v → exec .rdFe s = .next (s.returning .rdFe (.value v))) ∧
    (∀ g, s.lnaGainDb = some g → exec .rdLna s = .next (s.returning .rdLna (.value g))) ∧
    (∀ m, s.marginDb = some m → exec .rdMargin s = .next (s.returning .rdMargin (.value m))) ∧
    (∀ f, s.currentFrequency = some f → exec .rdFreq s = .next (s.returning .rdFreq (.value f.toNat))) ∧
    (∀ p, s.txPowerDbm = some p → exec .rdTxPow s = .next (s.returning .rdTxPow (.value p))) ∧
    (s.rssiRaw = none → exec .rdRssi s = .next (s.faulting (.unwritten .rssiRaw))) ∧
    (s.frequencyErrorHz = none → exec .rdFe s = .next (s.faulting (.unwritten .frequencyErrorHz))) ∧
    (s.lnaGainDb = none → exec .rdLna s = .next (s.faulting (.unwritten .lnaGainDb))) ∧
    (s.marginDb = none → exec .rdMargin s = .next (s.faulting (.unwritten .marginDb))) ∧
    (s.currentFrequency = none → exec .rdFreq s = .next (s.faulting (.unwritten .currentFrequency))) ∧
    (s.txPowerDbm = none → exec .rdTxPow s = .next (s.faulting (.unwritten .txPowerDbm)))) ∧
  ∀ s : State, s.fault = none → s.linkState ≠ .ready →
    ∀ i ∈ [Instr.rdRssi, .rdFe, .rdLna, .rdMargin, .rdFreq, .rdTxPow], exec i s = .next (s.faulting .notReady)

/-! ## RECEIVE -/

/-- R173: RECEIVE outside Receive mode enters it, answers -1 with no data, and reads nothing.
Log entry 22, the model's choice: the result's entry in H comes after the transactions. -/
def Obligations.ReceiveEntersReceiveMode : Prop :=
  ∀ (s : State) (len : Byte) (m : Mode), s.fault = none → s.linkState = .ready → 2 ≤ len.toNat →
    s.mode = some m → m ≠ .receive →
    exec (.receive len) s = .next
      ((s.afterSetMode Config.chip .receive).returning (.receive len) (.poll (-1) none))

/-- R173, R130: RECEIVE in Receive mode with no payload ready answers -1 with no data, after the sync check and one read of
`IrqFlags2`; on a sync edge the three metrics are captured.
Log entry 22, the model's choice: the result's entry in H comes after the transactions. -/
def Obligations.ReceiveWithoutPayloadAnswersMinusOne : Prop :=
  ∀ (s : State) (len : Byte) (last : Bool), s.fault = none → s.linkState = .ready → 2 ≤ len.toNat →
    s.mode = some .receive → s.lastSync = some last →
    ((s.afterSyncCheck Config.chip last).answer 0).getLsbD Config.chip.irq2PayloadReadyBit.val = false →
    exec (.receive len) s = .next
      (((s.afterSyncCheck Config.chip last).afterRead Config.chip .irqFlags2).returning (.receive len)
        (.poll (-1) none))

/-- R173, R134, R113: RECEIVE in Receive mode with a payload ready and a latched RSSI reads the packet between two RSSI
samples, writes the payload metrics whatever the filter decides, delivers the data, and answers the length byte where the
filter accepts, else -1.
Log entry 22, the model's choice: the result's entry in H comes after the transactions. -/
def Obligations.ReceiveFiltersThePacket : Prop :=
  ∀ (s u : State) (len r : Byte) (last : Bool) (p : BitVec 2) (me : BitVec 6),
    s.fault = none → s.linkState = .ready → 2 ≤ len.toNat → s.mode = some .receive → s.lastSync = some last →
    ((s.afterSyncCheck Config.chip last).answer 0).getLsbD Config.chip.irq2PayloadReadyBit.val = true →
    u = (s.afterSyncCheck Config.chip last).afterRead Config.chip .irqFlags2 →
    u.rssiRaw = some r → s.groupParity = some p → s.nodeId = some me →
    (dataAccepted Config.chip p me s.packetCount (s.packetByte 0) →
      exec (.receive len) s = .next ((u.afterPayload Config.chip len.toNat r).returning (.receive len)
        (.poll s.packetCount.toNat (some (s.packetData len.toNat))))) ∧
    (¬ dataAccepted Config.chip p me s.packetCount (s.packetByte 0) →
      exec (.receive len) s = .next ((u.afterPayload Config.chip len.toNat r).returning (.receive len)
        (.poll (-1) (some (s.packetData len.toNat)))))

/-- R134, R173, R202: RECEIVE of a payload before any sync edge raises `Unwritten(rssiRaw)`, after the read transactions,
which stay. (READACK and GETACK: ReadAckWithoutEdgeFaultsAfterItsReads, GetAckDeliversTheAck.) -/
def Obligations.ReceiveWithoutEdgeFaultsAfterItsReads : Prop :=
  ∀ (s u : State) (len : Byte) (last : Bool),
    s.fault = none → s.linkState = .ready → 2 ≤ len.toNat → s.mode = some .receive → s.lastSync = some last →
    ((s.afterSyncCheck Config.chip last).answer 0).getLsbD Config.chip.irq2PayloadReadyBit.val = true →
    u = (s.afterSyncCheck Config.chip last).afterRead Config.chip .irqFlags2 → u.rssiRaw = none →
    exec (.receive len) s = .next
      ((u.afterPayloadReads Config.chip len.toNat).faulting (.unwritten .rssiRaw))

/-- R181: a receiver with id 5 and parity 3 in Receive mode, with a latched RSSI, answers 12 for a packet of length byte 12
to destination byte 0xC5 or 0xC0, and -1 for a destination byte of another parity, such as 0x45.
Log entry 22, the model's choice: the result's entry in H comes after the transactions. -/
def Obligations.EndToEndScenarioFiltersByParity : Prop :=
  ∀ (s : State) (len r : Byte) (last : Bool),
    s.fault = none → s.linkState = .ready → 2 ≤ len.toNat → s.mode = some .receive → s.lastSync = some last →
    s.nodeId = some 5 → s.groupParity = some 3 →
    ((s.afterSyncCheck Config.chip last).answer 0).getLsbD Config.chip.irq2PayloadReadyBit.val = true →
    (s.afterSyncCheck Config.chip last).rssiRaw = some r → s.packetCount = 12 →
    ((s.packetByte 0 = 0xC5 ∨ s.packetByte 0 = 0xC0) → ∃ t, exec (.receive len) s = .next t ∧ t.fault = none ∧
      t.history.getLast? = some (.returned (.receive len) (.poll 12 (some (s.packetData len.toNat))))) ∧
    ((s.packetByte 0).extractLsb' 6 2 ≠ 3 → ∃ t, exec (.receive len) s = .next t ∧ t.fault = none ∧
      t.history.getLast? = some (.returned (.receive len) (.poll (-1) (some (s.packetData len.toNat)))))

/-! ## GETACK -/

/-- R174: in Transmit mode GETACK answers -1 after one read of `IrqFlags2`; where its packet-sent bit is set it first writes
the two timeout registers and records Receive.
Log entry 22, the model's choice: the result's entry in H comes after the transactions. -/
def Obligations.GetAckTransmitPhaseWaitsForPacketSent : Prop :=
  ∀ (s : State) (len : Byte), s.fault = none → s.linkState = .ready → 2 ≤ len.toNat → s.mode = some .transmit →
    ((s.answer 0).getLsbD Config.chip.irq2PacketSentBit.val = false →
      exec (.getAck len) s = .next ((s.afterRead Config.chip .irqFlags2).returning (.getAck len) (.poll (-1) none))) ∧
    ((s.answer 0).getLsbD Config.chip.irq2PacketSentBit.val = true →
      exec (.getAck len) s = .next
        (((((s.afterRead Config.chip .irqFlags2).afterWrite Config.chip .rxTimeout1
            Config.chip.ackTimeout1).afterWrite Config.chip .rxTimeout2 Config.chip.ackTimeout2).afterSetMode
            Config.chip .receive).returning (.getAck len) (.poll (-1) none)))

/-- R174, R211: in Receive mode a set timeout bit wins: GETACK answers 0 without reading `IrqFlags2`, with a boost of 1 dB
where `TIMEOUT_BOOST_ENABLED`, saturating at the range's top.
Log entry 22, the model's choice: the result's entry in H comes after the transactions. -/
def Obligations.GetAckTimeoutAnswersZero : Prop :=
  ∀ (s : State) (len : Byte) (last : Bool) (p : Int), s.fault = none → s.linkState = .ready → 2 ≤ len.toNat →
    s.mode = some .receive → s.lastSync = some last → s.txPowerDbm = some p →
    (s.answer 0).getLsbD Config.chip.irq1TimeoutBit.val = true →
    exec (.getAck len) s = .next
      ((if Config.chip.timeoutBoostEnabled then
          (s.afterSyncCheck Config.chip last).afterTxPower Config.chip (p + 1)
        else s.afterSyncCheck Config.chip last).returning (.getAck len) (.poll 0 none))

/-- R174: in Receive mode with neither the timeout nor the payload-ready bit set GETACK answers -1.
Log entry 22, the model's choice: the result's entry in H comes after the transactions. -/
def Obligations.GetAckKeepsWaiting : Prop :=
  ∀ (s : State) (len : Byte) (last : Bool), s.fault = none → s.linkState = .ready → 2 ≤ len.toNat →
    s.mode = some .receive → s.lastSync = some last →
    (s.answer 0).getLsbD Config.chip.irq1TimeoutBit.val = false →
    ((s.afterSyncCheck Config.chip last).answer 0).getLsbD Config.chip.irq2PayloadReadyBit.val = false →
    exec (.getAck len) s = .next
      (((s.afterSyncCheck Config.chip last).afterRead Config.chip .irqFlags2).returning (.getAck len)
        (.poll (-1) none))

/-- R207: in a mode that is neither Transmit nor Receive GETACK raises `NoAckWait(mode)` before any transaction. -/
def Obligations.GetAckOutsideItsPhasesRaisesNoAckWait : Prop :=
  ∀ (s : State) (len : Byte) (m : Mode), s.fault = none → s.linkState = .ready → 2 ≤ len.toNat →
    s.mode = some m → m = .sleep ∨ m = .standby ∨ m = .freqSynth →
    exec (.getAck len) s = .next (s.faulting (.noAckWait m))

/-- R174, R175: in Receive mode with no timeout and a payload ready GETACK ends as READACK's body does, from the state after
the sync check and the read of `IrqFlags2`: in its three answers, in `Unwritten(rssiRaw)` where no RSSI is latched (R134), and,
for an accepted ack whose trailer was delivered, in adjustFreq's two faults (R153, R209).
Log entry 22, the model's choice: the result's entry in H comes after the transactions. -/
def Obligations.GetAckDeliversTheAck : Prop :=
  ∀ (s u : State) (len : Byte) (last : Bool),
    s.fault = none → s.linkState = .ready → 2 ≤ len.toNat → s.mode = some .receive → s.lastSync = some last →
    (s.answer 0).getLsbD Config.chip.irq1TimeoutBit.val = false →
    ((s.afterSyncCheck Config.chip last).answer 0).getLsbD Config.chip.irq2PayloadReadyBit.val = true →
    u = (s.afterSyncCheck Config.chip last).afterRead Config.chip .irqFlags2 →
    (u.rssiRaw = none → exec (.getAck len) s = .next
      ((u.afterPayloadReads Config.chip len.toNat).faulting (.unwritten .rssiRaw))) ∧
    ∀ (r : Byte) (p : BitVec 2) (me : BitVec 6), u.rssiRaw = some r → s.groupParity = some p → s.nodeId = some me →
    (¬ ackAccepted Config.chip p me s.packetCount (s.packetByte 0) (s.packetByte 1) →
      exec (.getAck len) s = .next ((u.afterPayload Config.chip len.toNat r).returning (.getAck len)
        (.poll 0 (some (s.packetData len.toNat))))) ∧
    (ackAccepted Config.chip p me s.packetCount (s.packetByte 0) (s.packetByte 1) →
      ¬ trailerDelivered s.packetCount len →
      exec (.getAck len) s = .next ((u.afterPayload Config.chip len.toNat r).returning (.getAck len)
        (.poll s.packetCount.toNat (some (s.packetData len.toNat))))) ∧
    (ackAccepted Config.chip p me s.packetCount (s.packetByte 0) (s.packetByte 1) →
      trailerDelivered s.packetCount len → u.frequencyErrorHz = none →
      exec (.getAck len) s = .next
        ((u.afterPayload Config.chip len.toNat r).faulting (.unwritten .frequencyErrorHz))) ∧
    (ackAccepted Config.chip p me s.packetCount (s.packetByte 0) (s.packetByte 1) →
      trailerDelivered s.packetCount len → ∀ (fe : Int) (cur : Hz32), u.frequencyErrorHz = some fe →
      s.currentFrequency = some cur →
      (∀ pow : Int, s.txPowerDbm = some pow → correctionFits Config.chip fe cur →
        exec (.getAck len) s = .next
          (((u.afterPayload Config.chip len.toNat r).afterAdaptation Config.chip
            (s.packetByte (s.packetCount.toNat - 2)) fe cur pow).returning (.getAck len)
            (.poll s.packetCount.toNat (some (s.packetData len.toNat))))) ∧
      (¬ correctionFits Config.chip fe cur →
        exec (.getAck len) s = .next ((u.afterPayload Config.chip len.toNat r).faulting
          (.freqOutOfRange (refusedFrequency Config.chip fe cur)))))

/-- R178: in Transmit mode, as SEND leaves it, each GETACK whose packet-sent bit reads clear answers -1 and changes no field
of the block (any number `n` of them); the one that reads it set writes the two timeouts, records Receive, changes nothing
else of the block and answers -1; a following one that reads the timeout bit set answers 0.
Log entry 22, the model's choice: the result's entry in H comes after the transactions. -/
def Obligations.GetAckScenarioHolds : Prop :=
  ∀ (s : State) (len : Byte) (n : Nat) (last : Bool), s.fault = none → s.linkState = .ready → 2 ≤ len.toNat →
    s.mode = some .transmit → s.lastSync = some last → s.txPowerDbm.isSome →
    (∀ k, k < n → (s.answer k).getLsbD Config.chip.irq2PacketSentBit.val = false) →
    (s.answer n).getLsbD Config.chip.irq2PacketSentBit.val = true →
    (s.answer (n + 1)).getLsbD Config.chip.irq1TimeoutBit.val = true →
    (∃ t, execAll (List.replicate n (.getAck len)) s = .next t ∧
      t = { s with history := t.history, regAnswers := t.regAnswers, regReads := t.regReads } ∧
      resultsOf t.history = resultsOf s.history ++ List.replicate n (.poll (-1) none)) ∧
    (∃ t, execAll (List.replicate (n + 1) (.getAck len)) s = .next t ∧
      t = { s with mode := some .receive, history := t.history, regAnswers := t.regAnswers, regReads := t.regReads } ∧
      (∃ h, t.history = h ++
        [.transaction (.regWrite (Config.chip.regAddr .rxTimeout1) Config.chip.ackTimeout1),
         .transaction (.regWrite (Config.chip.regAddr .rxTimeout2) Config.chip.ackTimeout2),
         .transaction (.regWrite (Config.chip.regAddr .opMode) (opModeByte Config.chip .receive)),
         .returned (.getAck len) (.poll (-1) none)]) ∧
      resultsOf t.history = resultsOf s.history ++ List.replicate (n + 1) (.poll (-1) none)) ∧
    ∃ t, execAll (List.replicate (n + 2) (.getAck len)) s = .next t ∧ t.mode = some .receive ∧
      resultsOf t.history = resultsOf s.history ++ List.replicate (n + 1) (.poll (-1) none) ++ [.poll 0 none]

/-! ## READACK -/

/-- R175, R114, R118, R176: READACK reads the packet and writes the payload metrics; it answers 0 for a rejected ack, the
length byte for an accepted one, and where the trailer was delivered it first corrects the frequency, and then the power
where `POWER_CONTROL_ENABLED`.
Log entry 22, the model's choice: the result's entry in H comes after the transactions. -/
def Obligations.ReadAckFiltersAndAdapts : Prop :=
  ∀ (s : State) (len r : Byte) (p : BitVec 2) (me : BitVec 6) (fe pow : Int) (cur : Hz32),
    s.fault = none → s.linkState = .ready → 2 ≤ len.toNat → s.rssiRaw = some r → s.frequencyErrorHz = some fe →
    s.currentFrequency = some cur → s.txPowerDbm = some pow → s.groupParity = some p → s.nodeId = some me →
    (¬ ackAccepted Config.chip p me s.packetCount (s.packetByte 0) (s.packetByte 1) →
      exec (.readAck len) s = .next ((s.afterPayload Config.chip len.toNat r).returning (.readAck len)
        (.poll 0 (some (s.packetData len.toNat))))) ∧
    (ackAccepted Config.chip p me s.packetCount (s.packetByte 0) (s.packetByte 1) →
      ¬ trailerDelivered s.packetCount len →
      exec (.readAck len) s = .next ((s.afterPayload Config.chip len.toNat r).returning (.readAck len)
        (.poll s.packetCount.toNat (some (s.packetData len.toNat))))) ∧
    (ackAccepted Config.chip p me s.packetCount (s.packetByte 0) (s.packetByte 1) →
      trailerDelivered s.packetCount len → correctionFits Config.chip fe cur →
      exec (.readAck len) s = .next
        (((s.afterPayload Config.chip len.toNat r).afterAdaptation Config.chip
          (s.packetByte (s.packetCount.toNat - 2)) fe cur pow).returning (.readAck len)
          (.poll s.packetCount.toNat (some (s.packetData len.toNat)))))

/-- R175, R201, R153, R209: where the corrected frequency is out of range READACK faults with it, or with its scaled value
where it is the scaled value that is too high, and the transactions and metrics of its packet read stay. -/
def Obligations.ReadAckFrequencyFaultRollsNothingBack : Prop :=
  ∀ (s : State) (len r : Byte) (p : BitVec 2) (me : BitVec 6) (fe : Int) (cur : Hz32),
    s.fault = none → s.linkState = .ready → 2 ≤ len.toNat → s.rssiRaw = some r → s.frequencyErrorHz = some fe →
    s.currentFrequency = some cur → s.groupParity = some p → s.nodeId = some me →
    ackAccepted Config.chip p me s.packetCount (s.packetByte 0) (s.packetByte 1) →
    trailerDelivered s.packetCount len → ¬ correctionFits Config.chip fe cur →
    exec (.readAck len) s = .next ((s.afterPayload Config.chip len.toNat r).faulting
      (.freqOutOfRange (refusedFrequency Config.chip fe cur)))

/-- R134, R175, R202: READACK before any sync edge raises `Unwritten(rssiRaw)` after its three reads, which stay; with an
RSSI but no error, an accepted ack whose trailer was delivered raises `Unwritten(frequencyErrorHz)` after its packet read
(a state that meets the invariant has both or neither). -/
def Obligations.ReadAckWithoutEdgeFaultsAfterItsReads : Prop :=
  ∀ (s : State) (len : Byte), s.fault = none → s.linkState = .ready → 2 ≤ len.toNat →
    (s.rssiRaw = none → exec (.readAck len) s = .next
      ((s.afterPayloadReads Config.chip len.toNat).faulting (.unwritten .rssiRaw))) ∧
    ∀ (r : Byte) (p : BitVec 2) (me : BitVec 6), s.rssiRaw = some r → s.groupParity = some p → s.nodeId = some me →
      ackAccepted Config.chip p me s.packetCount (s.packetByte 0) (s.packetByte 1) →
      trailerDelivered s.packetCount len → s.frequencyErrorHz = none →
      exec (.readAck len) s = .next
        ((s.afterPayload Config.chip len.toNat r).faulting (.unwritten .frequencyErrorHz))

/-- R118: from the bytes a FifoRead delivered, the trailer is the last two payload bytes where `count ≥ 4` and
`len ≥ count`, else none; the peer's margin is its first byte as a signed number. -/
def Obligations.InfoTrailerIsTheLastTwoPayloadBytes : Prop :=
  (∀ (count len : Byte) (data : List Byte), data.length = min count.toNat len.toNat →
    (4 ≤ count.toNat → count.toNat ≤ len.toNat → ∃ t0 t1, infoTrailer count data len = some (t0, t1) ∧
      data = data.take (count.toNat - 2) ++ [t0, t1]) ∧
    ((count.toNat < 4 ∨ len.toNat < count.toNat) → infoTrailer count data len = none)) ∧
  ∀ t0 : Byte, peerMargin t0 = (t0.toNat : Int) - 256 * (if t0.getLsbD 7 then 1 else 0)

/-- R202, R137: where the metrics are written together, an ack never fails on an unwritten frequency error; `rssiRaw` is the
only field READACK and GETACK can miss. -/
def Obligations.AcksOnlyMissTheRssi : Prop :=
  ∀ (s t : State) (len : Byte) (f : Field), s.Inv Config.chip → s.fault = none → s.linkState = .ready →
    (exec (.readAck len) s = .next t ∨ exec (.getAck len) s = .next t) → t.fault = some (.unwritten f) → f = .rssiRaw

/-! ## INIT -/

/-- R170: INIT whose two presence checks pass, at the attempts `j` and `k`, and whose frequency is in range, succeeds and
leaves the fields of R36's last column, with the transactions in R170's order.
Log entry 22, the model's choice: the result's entry in H comes after the transactions. -/
def Obligations.InitSucceedsAfterBothSentinels : Prop :=
  ∀ (s : State) (id group : Byte) (freq : Hz32) (j k : Nat), s.fault = none → id.toNat ≤ 63 →
    firstMatch 0xAA s 0 (nonceRetries Config.chip) = some j →
    firstMatch 0x55 s (j + 1) (nonceRetries Config.chip) = some k →
    0 < freq.toNat → scaledHz freq.toNat < 1024000000 →
    exec (.init id group freq) s = .next
      ((((((((s.withIdentity Config.chip id group).afterAttempts Config.chip 0xAA (j + 1)).afterAttempts
        Config.chip 0x55 (k + 1)).afterTable Config.chip).afterFrequency Config.chip
        (scaledHz freq.toNat)).linkUp Config.chip group).returning (.init id group freq) .success))

/-- R171: INIT fails exactly when all read-backs of one sentinel differ from it: nothing but the identity, the link state and
the attempts' transactions is written.
Log entry 22, the model's choice: the result's entry in H comes after the transactions. -/
def Obligations.InitFailsWhenOneSentinelNeverReadsBack : Prop :=
  ∀ (s : State) (id group : Byte) (freq : Hz32), s.fault = none → id.toNat ≤ 63 →
    (firstMatch 0xAA s 0 (nonceRetries Config.chip) = none →
      exec (.init id group freq) s = .next
        ((((s.withIdentity Config.chip id group).afterAttempts Config.chip 0xAA
          (nonceRetries Config.chip)).setLink .failed).returning (.init id group freq) .failure)) ∧
    (∀ j, firstMatch 0xAA s 0 (nonceRetries Config.chip) = some j →
      firstMatch 0x55 s (j + 1) (nonceRetries Config.chip) = none →
      exec (.init id group freq) s = .next
        (((((s.withIdentity Config.chip id group).afterAttempts Config.chip 0xAA (j + 1)).afterAttempts
          Config.chip 0x55 (nonceRetries Config.chip)).setLink .failed).returning (.init id group freq) .failure)) ∧
    (∀ t, exec (.init id group freq) s = .next t → (t.linkState = .failed ∧ t.fault = none ∧
        t.history.getLast? = some (.returned (.init id group freq) .failure) ↔
      firstMatch 0xAA s 0 (nonceRetries Config.chip) = none ∨
        ∃ j, firstMatch 0xAA s 0 (nonceRetries Config.chip) = some j ∧
          firstMatch 0x55 s (j + 1) (nonceRetries Config.chip) = none))

/-- R170, R206, R209: INIT with a present radio and a frequency that cannot be programmed faults after the table and the
Sleep write, which stay; the link state is unchanged. -/
def Obligations.InitFrequencyFaultComesAfterSleep : Prop :=
  ∀ (s u : State) (id group : Byte) (freq : Hz32) (j k : Nat), s.fault = none → id.toNat ≤ 63 →
    firstMatch 0xAA s 0 (nonceRetries Config.chip) = some j →
    firstMatch 0x55 s (j + 1) (nonceRetries Config.chip) = some k →
    u = ((((s.withIdentity Config.chip id group).afterAttempts Config.chip 0xAA (j + 1)).afterAttempts
      Config.chip 0x55 (k + 1)).afterTable Config.chip) →
    (freq = 0 → exec (.init id group freq) s = .next (u.faulting .freqZeroHang)) ∧
    (0 < freq.toNat → 1024000000 ≤ scaledHz freq.toNat →
      exec (.init id group freq) s = .next (u.faulting (.freqOutOfRange (scaledHz freq.toNat))))

/-- R111: the parity is a function of the group alone: two INITs with one group leave the same parity, whatever their ids,
frequencies, blocks and outcomes. -/
def Obligations.InitsOfOneGroupAgreeOnParity : Prop :=
  ∀ (s s' t t' : State) (id id' group : Byte) (freq freq' : Hz32), id.toNat ≤ 63 → id'.toNat ≤ 63 →
    exec (.init id group freq) s = .next t → exec (.init id' group freq') s' = .next t' →
    t.groupParity.isSome ∧ t.groupParity = t'.groupParity

/-! ## Faults -/

/-- R203: every command but INIT raises `NotReady` before any transaction where the link is not Ready; INIT never does. -/
def Obligations.OnlyInitRunsBeforeReady : Prop :=
  ∀ (s : State) (i : Instr), s.fault = none →
    (s.linkState ≠ .ready → (∀ id group freq, i ≠ .init id group freq) →
      exec i s = .next (s.faulting .notReady)) ∧
    ∀ id group freq, i = .init id group freq → ∃ t, exec i s = .next t ∧ t.fault ≠ some .notReady

/-- R205: an argument out of range raises `BadArgument` before any transaction, after the readiness check, which INIT does
not have. -/
def Obligations.OutOfRangeArgumentRaisesBadArgument : Prop :=
  ∀ (s : State) (i : Instr), s.fault = none → i.wellFormed = false →
    ((s.linkState = .ready ∨ ∃ id group freq, i = .init id group freq) →
      exec i s = .next (s.faulting (.badArgument i.opcode))) ∧
    (s.linkState ≠ .ready → (∀ id group freq, i ≠ .init id group freq) →
      exec i s = .next (s.faulting .notReady))

/-- R201: a block with a recorded fault executes no further command: the machine stops with that fault. -/
def Obligations.FaultedBlockExecutesNoCommand : Prop :=
  ∀ (s : State) (f : Fault), s.fault = some f → (∀ i, exec i s = .fault f) ∧ ∀ t, step s = .next t → t = s

/-- R201, R32, R62: a command that runs either returns, adding itself and its result as the last entry of H and recording no
fault, or faults, recording the fault and adding no result; H only grows.
Log entry 22, the model's choice: the result's entry in H comes after the transactions. -/
def Obligations.CommandReturnsOrFaults : Prop :=
  ∀ (s t : State) (i : Instr), exec i s = .next t →
    ∃ es : List Event, (∀ e ∈ es, e.isTransaction = true) ∧
      ((t.fault = none ∧ ∃ r, t.history = s.history ++ es ++ [.returned i r]) ∨
        (t.fault.isSome ∧ t.history = s.history ++ es))

/-! ## Whole-machine rules -/

/-- R26, R27, R28, R36, R105, R136, R202: every step keeps the invariant of the block. -/
def Obligations.StepKeepsTheInvariant : Prop :=
  ∀ s t : State, s.Inv Config.chip → step s = .next t → t.Inv Config.chip

/-- The invariant holds at reset. -/
def Obligations.ResetMeetsTheInvariant : Prop := State.reset.Inv Config.chip

/-- R179: the number of transactions of each command is at most the rule's bound, whether it returns or faults.
Log entry 23, the model's choice: `|PA_LEVEL_WRITES|` is the length of the longest list for a power of
`TX_RANGE(PA_VARIANT)`. -/
def Obligations.TransactionsStayWithinTheBound : Prop :=
  ∀ (s t : State) (i : Instr), exec i s = .next t →
    transactionCount t.history ≤ transactionCount s.history + transactionBound Config.chip i

/-- R104: the recorded mode after a command that returns, by the command and the mode before it. -/
def Obligations.RecordedModeFollowsTheTable : Prop :=
  ∀ (s t : State) (i : Instr), exec i s = .next t → t.fault = none →
    t.mode = match i with
      | .init _ _ _ => if t.linkState = .ready then some .sleep else s.mode
      | .sleep => some .sleep
      | .send _ _ _ => some .transmit
      | .receive _ => some .receive
      | .getAck _ =>
        if s.mode = some .transmit ∧ (s.answer 0).getLsbD Config.chip.irq2PacketSentBit.val = true then some .receive
        else s.mode
      | .readAck _ => s.mode
      | .txPower _ => s.mode
      | .adjustPow _ _ => s.mode
      | .adjustFreq => s.mode
      | .addInfo => s.mode
      | .modeReady => s.mode
      | .rdRssi => s.mode
      | .rdFe => s.mode
      | .rdLna => s.mode
      | .rdMargin => s.mode
      | .rdFreq => s.mode
      | .rdTxPow => s.mode

/-- R22, R24, R25, R26, R27: only INIT writes the link state, the id and the parity; only INIT, ADJUSTFREQ, GETACK and READACK
write the frequency; only INIT, TXPOWER, ADJUSTPOW, GETACK and READACK write the power. -/
def Obligations.LinkFieldsHaveTheirWriters : Prop :=
  ∀ (s t : State) (i : Instr), exec i s = .next t →
    (i.opcode ≠ 0x01 → t.linkState = s.linkState ∧ t.nodeId = s.nodeId ∧ t.groupParity = s.groupParity) ∧
    (i.opcode ∉ ([0x01, 0x04, 0x05, 0x08] : List Byte) → t.currentFrequency = s.currentFrequency) ∧
    (i.opcode ∉ ([0x01, 0x04, 0x05, 0x06, 0x07] : List Byte) → t.txPowerDbm = s.txPowerDbm)

/-- R28, R29, R137: only INIT, RECEIVE and GETACK write the sync-edge metrics and lastSync; only INIT, RECEIVE, GETACK and
READACK write the payload-ready metrics. -/
def Obligations.MetricsHaveTheirWriters : Prop :=
  ∀ (s t : State) (i : Instr), exec i s = .next t →
    (i.opcode ∉ ([0x01, 0x03, 0x04] : List Byte) → t.rssiRaw = s.rssiRaw ∧ t.lnaGainDb = s.lnaGainDb ∧
      t.frequencyErrorHz = s.frequencyErrorHz ∧ t.lastSync = s.lastSync) ∧
    (i.opcode ∉ ([0x01, 0x03, 0x04, 0x05] : List Byte) → t.snrDb = s.snrDb ∧ t.marginDb = s.marginDb)

/-- R60, R177, R179: no command takes bytes from the port while it runs, and the commands whose rules issue no read leave the
radio's coming answers alone. -/
def Obligations.CommandsLeaveThePortAndUnreadRadioAlone : Prop :=
  ∀ (s t : State) (i : Instr), exec i s = .next t →
    t.inbox = s.inbox ∧
    (i.opcode ∉ ([0x03, 0x04, 0x05] : List Byte) → t.packets = s.packets ∧ t.fifoReads = s.fifoReads) ∧
    (i.opcode ∉ ([0x01, 0x03, 0x04, 0x05, 0x0B] : List Byte) →
      t.regAnswers = s.regAnswers ∧ t.regReads = s.regReads)

/-- R62: in a state that meets the invariant every command that returns has a result of its stated type and range.
Log entry 22, the model's choice: the result's entry in H comes after the transactions. -/
def Obligations.ResultsHaveTheirStatedRanges : Prop :=
  ∀ (s t : State) (i : Instr) (r : Result), s.Inv Config.chip → exec i s = .next t →
    t.fault = none → t.history.getLast? = some (.returned i r) → resultInRange Config.chip i r

/-! ## Field conversions -/

/-- R132: the frequency error is 61 Hz a step of the signed AFC value times `FE_SIGN`, its range is ±1,998,848 Hz, and the
other sign gives the opposite error. -/
def Obligations.AfcErrorScalesTheSignedValue : Prop :=
  ∀ (c : Config) (w : BitVec 16),
    (c.feSign = .minus → afcToHz c w = -61 * ((w.toNat : Int) - (if w.getLsbD 15 then 65536 else 0))) ∧
    (c.feSign = .plus → afcToHz c w = 61 * ((w.toNat : Int) - (if w.getLsbD 15 then 65536 else 0))) ∧
    -1998848 ≤ afcToHz c w ∧ afcToHz c w ≤ 1998848

/-- R133: the gain is the table's entry at the 3-bit field from `LNA_SHIFT` up; the other bits are ignored. -/
def Obligations.LnaGainReadsTheThreeBitCode : Prop :=
  ∀ (c : Config) (b : Byte),
    ([0, 0, 6, 12, 24, 36, 48, 48] : List Nat)[b.toNat / 2 ^ c.lnaShift.val % 8]? = some (lnaGain c b)

/-- R134, R135, R136: the SNR is the floored average noise over the latched RSSI, floored at 0 and divided; the margin is 13
below it; with divisor 2 they lie in 0..127 and -13..114. -/
def Obligations.PayloadMetricsStayInRange : Prop :=
  ∀ (c : Config) (n1 n2 r : Byte),
    ((snrOf c n1 n2 r : Nat) : Int) =
      (max 0 (((n1.toNat + n2.toNat) / 2 : Nat) - (r.toNat : Int))) / (rssiDivisor c : Int) ∧
    linkMargin (snrOf c n1 n2 r) = (snrOf c n1 n2 r : Int) - 13 ∧ -13 ≤ linkMargin (snrOf c n1 n2 r) ∧
    (rssiDivisor c = 2 → snrOf c n1 n2 r ≤ 127 ∧ linkMargin (snrOf c n1 n2 r) ≤ 114)
end

