-- ==== Sys2Proof/Laws/State.lean ====
section
/-! SUPPORT. What each update of S does to each field, one lemma per field, true by definition. -/

namespace Sys2Proof.Machine

@[simp] theorem State.setLink_linkState (l : LinkState) (s : State) : (s.setLink l).linkState = l := rfl
@[simp] theorem State.setLink_mode (l : LinkState) (s : State) : (s.setLink l).mode = s.mode := rfl
@[simp] theorem State.setLink_nodeId (l : LinkState) (s : State) : (s.setLink l).nodeId = s.nodeId := rfl
@[simp] theorem State.setLink_groupParity (l : LinkState) (s : State) : (s.setLink l).groupParity = s.groupParity := rfl
@[simp] theorem State.setLink_currentFrequency (l : LinkState) (s : State) : (s.setLink l).currentFrequency = s.currentFrequency := rfl
@[simp] theorem State.setLink_txPowerDbm (l : LinkState) (s : State) : (s.setLink l).txPowerDbm = s.txPowerDbm := rfl
@[simp] theorem State.setLink_rssiRaw (l : LinkState) (s : State) : (s.setLink l).rssiRaw = s.rssiRaw := rfl
@[simp] theorem State.setLink_lnaGainDb (l : LinkState) (s : State) : (s.setLink l).lnaGainDb = s.lnaGainDb := rfl
@[simp] theorem State.setLink_frequencyErrorHz (l : LinkState) (s : State) : (s.setLink l).frequencyErrorHz = s.frequencyErrorHz := rfl
@[simp] theorem State.setLink_snrDb (l : LinkState) (s : State) : (s.setLink l).snrDb = s.snrDb := rfl
@[simp] theorem State.setLink_marginDb (l : LinkState) (s : State) : (s.setLink l).marginDb = s.marginDb := rfl
@[simp] theorem State.setLink_lastSync (l : LinkState) (s : State) : (s.setLink l).lastSync = s.lastSync := rfl
@[simp] theorem State.setLink_fault (l : LinkState) (s : State) : (s.setLink l).fault = s.fault := rfl
@[simp] theorem State.setLink_history (l : LinkState) (s : State) : (s.setLink l).history = s.history := rfl
@[simp] theorem State.setLink_inbox (l : LinkState) (s : State) : (s.setLink l).inbox = s.inbox := rfl
@[simp] theorem State.setLink_regAnswers (l : LinkState) (s : State) : (s.setLink l).regAnswers = s.regAnswers := rfl
@[simp] theorem State.setLink_packets (l : LinkState) (s : State) : (s.setLink l).packets = s.packets := rfl
@[simp] theorem State.setLink_regReads (l : LinkState) (s : State) : (s.setLink l).regReads = s.regReads := rfl
@[simp] theorem State.setLink_fifoReads (l : LinkState) (s : State) : (s.setLink l).fifoReads = s.fifoReads := rfl

@[simp] theorem State.setMode_linkState (m : Mode) (s : State) : (s.setMode m).linkState = s.linkState := rfl
@[simp] theorem State.setMode_mode (m : Mode) (s : State) : (s.setMode m).mode = some m := rfl
@[simp] theorem State.setMode_nodeId (m : Mode) (s : State) : (s.setMode m).nodeId = s.nodeId := rfl
@[simp] theorem State.setMode_groupParity (m : Mode) (s : State) : (s.setMode m).groupParity = s.groupParity := rfl
@[simp] theorem State.setMode_currentFrequency (m : Mode) (s : State) : (s.setMode m).currentFrequency = s.currentFrequency := rfl
@[simp] theorem State.setMode_txPowerDbm (m : Mode) (s : State) : (s.setMode m).txPowerDbm = s.txPowerDbm := rfl
@[simp] theorem State.setMode_rssiRaw (m : Mode) (s : State) : (s.setMode m).rssiRaw = s.rssiRaw := rfl
@[simp] theorem State.setMode_lnaGainDb (m : Mode) (s : State) : (s.setMode m).lnaGainDb = s.lnaGainDb := rfl
@[simp] theorem State.setMode_frequencyErrorHz (m : Mode) (s : State) : (s.setMode m).frequencyErrorHz = s.frequencyErrorHz := rfl
@[simp] theorem State.setMode_snrDb (m : Mode) (s : State) : (s.setMode m).snrDb = s.snrDb := rfl
@[simp] theorem State.setMode_marginDb (m : Mode) (s : State) : (s.setMode m).marginDb = s.marginDb := rfl
@[simp] theorem State.setMode_lastSync (m : Mode) (s : State) : (s.setMode m).lastSync = s.lastSync := rfl
@[simp] theorem State.setMode_fault (m : Mode) (s : State) : (s.setMode m).fault = s.fault := rfl
@[simp] theorem State.setMode_history (m : Mode) (s : State) : (s.setMode m).history = s.history := rfl
@[simp] theorem State.setMode_inbox (m : Mode) (s : State) : (s.setMode m).inbox = s.inbox := rfl
@[simp] theorem State.setMode_regAnswers (m : Mode) (s : State) : (s.setMode m).regAnswers = s.regAnswers := rfl
@[simp] theorem State.setMode_packets (m : Mode) (s : State) : (s.setMode m).packets = s.packets := rfl
@[simp] theorem State.setMode_regReads (m : Mode) (s : State) : (s.setMode m).regReads = s.regReads := rfl
@[simp] theorem State.setMode_fifoReads (m : Mode) (s : State) : (s.setMode m).fifoReads = s.fifoReads := rfl

@[simp] theorem State.setIdentity_linkState (id : BitVec 6) (p : BitVec 2) (s : State) : (s.setIdentity id p).linkState = s.linkState := rfl
@[simp] theorem State.setIdentity_mode (id : BitVec 6) (p : BitVec 2) (s : State) : (s.setIdentity id p).mode = s.mode := rfl
@[simp] theorem State.setIdentity_nodeId (id : BitVec 6) (p : BitVec 2) (s : State) : (s.setIdentity id p).nodeId = some id := rfl
@[simp] theorem State.setIdentity_groupParity (id : BitVec 6) (p : BitVec 2) (s : State) : (s.setIdentity id p).groupParity = some p := rfl
@[simp] theorem State.setIdentity_currentFrequency (id : BitVec 6) (p : BitVec 2) (s : State) : (s.setIdentity id p).currentFrequency = s.currentFrequency := rfl
@[simp] theorem State.setIdentity_txPowerDbm (id : BitVec 6) (p : BitVec 2) (s : State) : (s.setIdentity id p).txPowerDbm = s.txPowerDbm := rfl
@[simp] theorem State.setIdentity_rssiRaw (id : BitVec 6) (p : BitVec 2) (s : State) : (s.setIdentity id p).rssiRaw = s.rssiRaw := rfl
@[simp] theorem State.setIdentity_lnaGainDb (id : BitVec 6) (p : BitVec 2) (s : State) : (s.setIdentity id p).lnaGainDb = s.lnaGainDb := rfl
@[simp] theorem State.setIdentity_frequencyErrorHz (id : BitVec 6) (p : BitVec 2) (s : State) : (s.setIdentity id p).frequencyErrorHz = s.frequencyErrorHz := rfl
@[simp] theorem State.setIdentity_snrDb (id : BitVec 6) (p : BitVec 2) (s : State) : (s.setIdentity id p).snrDb = s.snrDb := rfl
@[simp] theorem State.setIdentity_marginDb (id : BitVec 6) (p : BitVec 2) (s : State) : (s.setIdentity id p).marginDb = s.marginDb := rfl
@[simp] theorem State.setIdentity_lastSync (id : BitVec 6) (p : BitVec 2) (s : State) : (s.setIdentity id p).lastSync = s.lastSync := rfl
@[simp] theorem State.setIdentity_fault (id : BitVec 6) (p : BitVec 2) (s : State) : (s.setIdentity id p).fault = s.fault := rfl
@[simp] theorem State.setIdentity_history (id : BitVec 6) (p : BitVec 2) (s : State) : (s.setIdentity id p).history = s.history := rfl
@[simp] theorem State.setIdentity_inbox (id : BitVec 6) (p : BitVec 2) (s : State) : (s.setIdentity id p).inbox = s.inbox := rfl
@[simp] theorem State.setIdentity_regAnswers (id : BitVec 6) (p : BitVec 2) (s : State) : (s.setIdentity id p).regAnswers = s.regAnswers := rfl
@[simp] theorem State.setIdentity_packets (id : BitVec 6) (p : BitVec 2) (s : State) : (s.setIdentity id p).packets = s.packets := rfl
@[simp] theorem State.setIdentity_regReads (id : BitVec 6) (p : BitVec 2) (s : State) : (s.setIdentity id p).regReads = s.regReads := rfl
@[simp] theorem State.setIdentity_fifoReads (id : BitVec 6) (p : BitVec 2) (s : State) : (s.setIdentity id p).fifoReads = s.fifoReads := rfl

@[simp] theorem State.setFrequency_linkState (hz : Hz32) (s : State) : (s.setFrequency hz).linkState = s.linkState := rfl
@[simp] theorem State.setFrequency_mode (hz : Hz32) (s : State) : (s.setFrequency hz).mode = s.mode := rfl
@[simp] theorem State.setFrequency_nodeId (hz : Hz32) (s : State) : (s.setFrequency hz).nodeId = s.nodeId := rfl
@[simp] theorem State.setFrequency_groupParity (hz : Hz32) (s : State) : (s.setFrequency hz).groupParity = s.groupParity := rfl
@[simp] theorem State.setFrequency_currentFrequency (hz : Hz32) (s : State) : (s.setFrequency hz).currentFrequency = some hz := rfl
@[simp] theorem State.setFrequency_txPowerDbm (hz : Hz32) (s : State) : (s.setFrequency hz).txPowerDbm = s.txPowerDbm := rfl
@[simp] theorem State.setFrequency_rssiRaw (hz : Hz32) (s : State) : (s.setFrequency hz).rssiRaw = s.rssiRaw := rfl
@[simp] theorem State.setFrequency_lnaGainDb (hz : Hz32) (s : State) : (s.setFrequency hz).lnaGainDb = s.lnaGainDb := rfl
@[simp] theorem State.setFrequency_frequencyErrorHz (hz : Hz32) (s : State) : (s.setFrequency hz).frequencyErrorHz = s.frequencyErrorHz := rfl
@[simp] theorem State.setFrequency_snrDb (hz : Hz32) (s : State) : (s.setFrequency hz).snrDb = s.snrDb := rfl
@[simp] theorem State.setFrequency_marginDb (hz : Hz32) (s : State) : (s.setFrequency hz).marginDb = s.marginDb := rfl
@[simp] theorem State.setFrequency_lastSync (hz : Hz32) (s : State) : (s.setFrequency hz).lastSync = s.lastSync := rfl
@[simp] theorem State.setFrequency_fault (hz : Hz32) (s : State) : (s.setFrequency hz).fault = s.fault := rfl
@[simp] theorem State.setFrequency_history (hz : Hz32) (s : State) : (s.setFrequency hz).history = s.history := rfl
@[simp] theorem State.setFrequency_inbox (hz : Hz32) (s : State) : (s.setFrequency hz).inbox = s.inbox := rfl
@[simp] theorem State.setFrequency_regAnswers (hz : Hz32) (s : State) : (s.setFrequency hz).regAnswers = s.regAnswers := rfl
@[simp] theorem State.setFrequency_packets (hz : Hz32) (s : State) : (s.setFrequency hz).packets = s.packets := rfl
@[simp] theorem State.setFrequency_regReads (hz : Hz32) (s : State) : (s.setFrequency hz).regReads = s.regReads := rfl
@[simp] theorem State.setFrequency_fifoReads (hz : Hz32) (s : State) : (s.setFrequency hz).fifoReads = s.fifoReads := rfl

@[simp] theorem State.setPower_linkState (p : Int) (s : State) : (s.setPower p).linkState = s.linkState := rfl
@[simp] theorem State.setPower_mode (p : Int) (s : State) : (s.setPower p).mode = s.mode := rfl
@[simp] theorem State.setPower_nodeId (p : Int) (s : State) : (s.setPower p).nodeId = s.nodeId := rfl
@[simp] theorem State.setPower_groupParity (p : Int) (s : State) : (s.setPower p).groupParity = s.groupParity := rfl
@[simp] theorem State.setPower_currentFrequency (p : Int) (s : State) : (s.setPower p).currentFrequency = s.currentFrequency := rfl
@[simp] theorem State.setPower_txPowerDbm (p : Int) (s : State) : (s.setPower p).txPowerDbm = some p := rfl
@[simp] theorem State.setPower_rssiRaw (p : Int) (s : State) : (s.setPower p).rssiRaw = s.rssiRaw := rfl
@[simp] theorem State.setPower_lnaGainDb (p : Int) (s : State) : (s.setPower p).lnaGainDb = s.lnaGainDb := rfl
@[simp] theorem State.setPower_frequencyErrorHz (p : Int) (s : State) : (s.setPower p).frequencyErrorHz = s.frequencyErrorHz := rfl
@[simp] theorem State.setPower_snrDb (p : Int) (s : State) : (s.setPower p).snrDb = s.snrDb := rfl
@[simp] theorem State.setPower_marginDb (p : Int) (s : State) : (s.setPower p).marginDb = s.marginDb := rfl
@[simp] theorem State.setPower_lastSync (p : Int) (s : State) : (s.setPower p).lastSync = s.lastSync := rfl
@[simp] theorem State.setPower_fault (p : Int) (s : State) : (s.setPower p).fault = s.fault := rfl
@[simp] theorem State.setPower_history (p : Int) (s : State) : (s.setPower p).history = s.history := rfl
@[simp] theorem State.setPower_inbox (p : Int) (s : State) : (s.setPower p).inbox = s.inbox := rfl
@[simp] theorem State.setPower_regAnswers (p : Int) (s : State) : (s.setPower p).regAnswers = s.regAnswers := rfl
@[simp] theorem State.setPower_packets (p : Int) (s : State) : (s.setPower p).packets = s.packets := rfl
@[simp] theorem State.setPower_regReads (p : Int) (s : State) : (s.setPower p).regReads = s.regReads := rfl
@[simp] theorem State.setPower_fifoReads (p : Int) (s : State) : (s.setPower p).fifoReads = s.fifoReads := rfl

@[simp] theorem State.setSyncMetrics_linkState (r : Byte) (g : Nat) (fe : Int) (s : State) : (s.setSyncMetrics r g fe).linkState = s.linkState := rfl
@[simp] theorem State.setSyncMetrics_mode (r : Byte) (g : Nat) (fe : Int) (s : State) : (s.setSyncMetrics r g fe).mode = s.mode := rfl
@[simp] theorem State.setSyncMetrics_nodeId (r : Byte) (g : Nat) (fe : Int) (s : State) : (s.setSyncMetrics r g fe).nodeId = s.nodeId := rfl
@[simp] theorem State.setSyncMetrics_groupParity (r : Byte) (g : Nat) (fe : Int) (s : State) : (s.setSyncMetrics r g fe).groupParity = s.groupParity := rfl
@[simp] theorem State.setSyncMetrics_currentFrequency (r : Byte) (g : Nat) (fe : Int) (s : State) : (s.setSyncMetrics r g fe).currentFrequency = s.currentFrequency := rfl
@[simp] theorem State.setSyncMetrics_txPowerDbm (r : Byte) (g : Nat) (fe : Int) (s : State) : (s.setSyncMetrics r g fe).txPowerDbm = s.txPowerDbm := rfl
@[simp] theorem State.setSyncMetrics_rssiRaw (r : Byte) (g : Nat) (fe : Int) (s : State) : (s.setSyncMetrics r g fe).rssiRaw = some r := rfl
@[simp] theorem State.setSyncMetrics_lnaGainDb (r : Byte) (g : Nat) (fe : Int) (s : State) : (s.setSyncMetrics r g fe).lnaGainDb = some g := rfl
@[simp] theorem State.setSyncMetrics_frequencyErrorHz (r : Byte) (g : Nat) (fe : Int) (s : State) : (s.setSyncMetrics r g fe).frequencyErrorHz = some fe := rfl
@[simp] theorem State.setSyncMetrics_snrDb (r : Byte) (g : Nat) (fe : Int) (s : State) : (s.setSyncMetrics r g fe).snrDb = s.snrDb := rfl
@[simp] theorem State.setSyncMetrics_marginDb (r : Byte) (g : Nat) (fe : Int) (s : State) : (s.setSyncMetrics r g fe).marginDb = s.marginDb := rfl
@[simp] theorem State.setSyncMetrics_lastSync (r : Byte) (g : Nat) (fe : Int) (s : State) : (s.setSyncMetrics r g fe).lastSync = s.lastSync := rfl
@[simp] theorem State.setSyncMetrics_fault (r : Byte) (g : Nat) (fe : Int) (s : State) : (s.setSyncMetrics r g fe).fault = s.fault := rfl
@[simp] theorem State.setSyncMetrics_history (r : Byte) (g : Nat) (fe : Int) (s : State) : (s.setSyncMetrics r g fe).history = s.history := rfl
@[simp] theorem State.setSyncMetrics_inbox (r : Byte) (g : Nat) (fe : Int) (s : State) : (s.setSyncMetrics r g fe).inbox = s.inbox := rfl
@[simp] theorem State.setSyncMetrics_regAnswers (r : Byte) (g : Nat) (fe : Int) (s : State) : (s.setSyncMetrics r g fe).regAnswers = s.regAnswers := rfl
@[simp] theorem State.setSyncMetrics_packets (r : Byte) (g : Nat) (fe : Int) (s : State) : (s.setSyncMetrics r g fe).packets = s.packets := rfl
@[simp] theorem State.setSyncMetrics_regReads (r : Byte) (g : Nat) (fe : Int) (s : State) : (s.setSyncMetrics r g fe).regReads = s.regReads := rfl
@[simp] theorem State.setSyncMetrics_fifoReads (r : Byte) (g : Nat) (fe : Int) (s : State) : (s.setSyncMetrics r g fe).fifoReads = s.fifoReads := rfl

@[simp] theorem State.setPayloadMetrics_linkState (n : Nat) (m : Int) (s : State) : (s.setPayloadMetrics n m).linkState = s.linkState := rfl
@[simp] theorem State.setPayloadMetrics_mode (n : Nat) (m : Int) (s : State) : (s.setPayloadMetrics n m).mode = s.mode := rfl
@[simp] theorem State.setPayloadMetrics_nodeId (n : Nat) (m : Int) (s : State) : (s.setPayloadMetrics n m).nodeId = s.nodeId := rfl
@[simp] theorem State.setPayloadMetrics_groupParity (n : Nat) (m : Int) (s : State) : (s.setPayloadMetrics n m).groupParity = s.groupParity := rfl
@[simp] theorem State.setPayloadMetrics_currentFrequency (n : Nat) (m : Int) (s : State) : (s.setPayloadMetrics n m).currentFrequency = s.currentFrequency := rfl
@[simp] theorem State.setPayloadMetrics_txPowerDbm (n : Nat) (m : Int) (s : State) : (s.setPayloadMetrics n m).txPowerDbm = s.txPowerDbm := rfl
@[simp] theorem State.setPayloadMetrics_rssiRaw (n : Nat) (m : Int) (s : State) : (s.setPayloadMetrics n m).rssiRaw = s.rssiRaw := rfl
@[simp] theorem State.setPayloadMetrics_lnaGainDb (n : Nat) (m : Int) (s : State) : (s.setPayloadMetrics n m).lnaGainDb = s.lnaGainDb := rfl
@[simp] theorem State.setPayloadMetrics_frequencyErrorHz (n : Nat) (m : Int) (s : State) : (s.setPayloadMetrics n m).frequencyErrorHz = s.frequencyErrorHz := rfl
@[simp] theorem State.setPayloadMetrics_snrDb (n : Nat) (m : Int) (s : State) : (s.setPayloadMetrics n m).snrDb = some n := rfl
@[simp] theorem State.setPayloadMetrics_marginDb (n : Nat) (m : Int) (s : State) : (s.setPayloadMetrics n m).marginDb = some m := rfl
@[simp] theorem State.setPayloadMetrics_lastSync (n : Nat) (m : Int) (s : State) : (s.setPayloadMetrics n m).lastSync = s.lastSync := rfl
@[simp] theorem State.setPayloadMetrics_fault (n : Nat) (m : Int) (s : State) : (s.setPayloadMetrics n m).fault = s.fault := rfl
@[simp] theorem State.setPayloadMetrics_history (n : Nat) (m : Int) (s : State) : (s.setPayloadMetrics n m).history = s.history := rfl
@[simp] theorem State.setPayloadMetrics_inbox (n : Nat) (m : Int) (s : State) : (s.setPayloadMetrics n m).inbox = s.inbox := rfl
@[simp] theorem State.setPayloadMetrics_regAnswers (n : Nat) (m : Int) (s : State) : (s.setPayloadMetrics n m).regAnswers = s.regAnswers := rfl
@[simp] theorem State.setPayloadMetrics_packets (n : Nat) (m : Int) (s : State) : (s.setPayloadMetrics n m).packets = s.packets := rfl
@[simp] theorem State.setPayloadMetrics_regReads (n : Nat) (m : Int) (s : State) : (s.setPayloadMetrics n m).regReads = s.regReads := rfl
@[simp] theorem State.setPayloadMetrics_fifoReads (n : Nat) (m : Int) (s : State) : (s.setPayloadMetrics n m).fifoReads = s.fifoReads := rfl

@[simp] theorem State.clearMetrics_linkState (s : State) : (s.clearMetrics).linkState = s.linkState := rfl
@[simp] theorem State.clearMetrics_mode (s : State) : (s.clearMetrics).mode = s.mode := rfl
@[simp] theorem State.clearMetrics_nodeId (s : State) : (s.clearMetrics).nodeId = s.nodeId := rfl
@[simp] theorem State.clearMetrics_groupParity (s : State) : (s.clearMetrics).groupParity = s.groupParity := rfl
@[simp] theorem State.clearMetrics_currentFrequency (s : State) : (s.clearMetrics).currentFrequency = s.currentFrequency := rfl
@[simp] theorem State.clearMetrics_txPowerDbm (s : State) : (s.clearMetrics).txPowerDbm = s.txPowerDbm := rfl
@[simp] theorem State.clearMetrics_rssiRaw (s : State) : (s.clearMetrics).rssiRaw = none := rfl
@[simp] theorem State.clearMetrics_lnaGainDb (s : State) : (s.clearMetrics).lnaGainDb = none := rfl
@[simp] theorem State.clearMetrics_frequencyErrorHz (s : State) : (s.clearMetrics).frequencyErrorHz = none := rfl
@[simp] theorem State.clearMetrics_snrDb (s : State) : (s.clearMetrics).snrDb = none := rfl
@[simp] theorem State.clearMetrics_marginDb (s : State) : (s.clearMetrics).marginDb = none := rfl
@[simp] theorem State.clearMetrics_lastSync (s : State) : (s.clearMetrics).lastSync = s.lastSync := rfl
@[simp] theorem State.clearMetrics_fault (s : State) : (s.clearMetrics).fault = s.fault := rfl
@[simp] theorem State.clearMetrics_history (s : State) : (s.clearMetrics).history = s.history := rfl
@[simp] theorem State.clearMetrics_inbox (s : State) : (s.clearMetrics).inbox = s.inbox := rfl
@[simp] theorem State.clearMetrics_regAnswers (s : State) : (s.clearMetrics).regAnswers = s.regAnswers := rfl
@[simp] theorem State.clearMetrics_packets (s : State) : (s.clearMetrics).packets = s.packets := rfl
@[simp] theorem State.clearMetrics_regReads (s : State) : (s.clearMetrics).regReads = s.regReads := rfl
@[simp] theorem State.clearMetrics_fifoReads (s : State) : (s.clearMetrics).fifoReads = s.fifoReads := rfl

@[simp] theorem State.setLastSync_linkState (b : Bool) (s : State) : (s.setLastSync b).linkState = s.linkState := rfl
@[simp] theorem State.setLastSync_mode (b : Bool) (s : State) : (s.setLastSync b).mode = s.mode := rfl
@[simp] theorem State.setLastSync_nodeId (b : Bool) (s : State) : (s.setLastSync b).nodeId = s.nodeId := rfl
@[simp] theorem State.setLastSync_groupParity (b : Bool) (s : State) : (s.setLastSync b).groupParity = s.groupParity := rfl
@[simp] theorem State.setLastSync_currentFrequency (b : Bool) (s : State) : (s.setLastSync b).currentFrequency = s.currentFrequency := rfl
@[simp] theorem State.setLastSync_txPowerDbm (b : Bool) (s : State) : (s.setLastSync b).txPowerDbm = s.txPowerDbm := rfl
@[simp] theorem State.setLastSync_rssiRaw (b : Bool) (s : State) : (s.setLastSync b).rssiRaw = s.rssiRaw := rfl
@[simp] theorem State.setLastSync_lnaGainDb (b : Bool) (s : State) : (s.setLastSync b).lnaGainDb = s.lnaGainDb := rfl
@[simp] theorem State.setLastSync_frequencyErrorHz (b : Bool) (s : State) : (s.setLastSync b).frequencyErrorHz = s.frequencyErrorHz := rfl
@[simp] theorem State.setLastSync_snrDb (b : Bool) (s : State) : (s.setLastSync b).snrDb = s.snrDb := rfl
@[simp] theorem State.setLastSync_marginDb (b : Bool) (s : State) : (s.setLastSync b).marginDb = s.marginDb := rfl
@[simp] theorem State.setLastSync_lastSync (b : Bool) (s : State) : (s.setLastSync b).lastSync = some b := rfl
@[simp] theorem State.setLastSync_fault (b : Bool) (s : State) : (s.setLastSync b).fault = s.fault := rfl
@[simp] theorem State.setLastSync_history (b : Bool) (s : State) : (s.setLastSync b).history = s.history := rfl
@[simp] theorem State.setLastSync_inbox (b : Bool) (s : State) : (s.setLastSync b).inbox = s.inbox := rfl
@[simp] theorem State.setLastSync_regAnswers (b : Bool) (s : State) : (s.setLastSync b).regAnswers = s.regAnswers := rfl
@[simp] theorem State.setLastSync_packets (b : Bool) (s : State) : (s.setLastSync b).packets = s.packets := rfl
@[simp] theorem State.setLastSync_regReads (b : Bool) (s : State) : (s.setLastSync b).regReads = s.regReads := rfl
@[simp] theorem State.setLastSync_fifoReads (b : Bool) (s : State) : (s.setLastSync b).fifoReads = s.fifoReads := rfl

@[simp] theorem State.setFault_linkState (f : Fault) (s : State) : (s.setFault f).linkState = s.linkState := rfl
@[simp] theorem State.setFault_mode (f : Fault) (s : State) : (s.setFault f).mode = s.mode := rfl
@[simp] theorem State.setFault_nodeId (f : Fault) (s : State) : (s.setFault f).nodeId = s.nodeId := rfl
@[simp] theorem State.setFault_groupParity (f : Fault) (s : State) : (s.setFault f).groupParity = s.groupParity := rfl
@[simp] theorem State.setFault_currentFrequency (f : Fault) (s : State) : (s.setFault f).currentFrequency = s.currentFrequency := rfl
@[simp] theorem State.setFault_txPowerDbm (f : Fault) (s : State) : (s.setFault f).txPowerDbm = s.txPowerDbm := rfl
@[simp] theorem State.setFault_rssiRaw (f : Fault) (s : State) : (s.setFault f).rssiRaw = s.rssiRaw := rfl
@[simp] theorem State.setFault_lnaGainDb (f : Fault) (s : State) : (s.setFault f).lnaGainDb = s.lnaGainDb := rfl
@[simp] theorem State.setFault_frequencyErrorHz (f : Fault) (s : State) : (s.setFault f).frequencyErrorHz = s.frequencyErrorHz := rfl
@[simp] theorem State.setFault_snrDb (f : Fault) (s : State) : (s.setFault f).snrDb = s.snrDb := rfl
@[simp] theorem State.setFault_marginDb (f : Fault) (s : State) : (s.setFault f).marginDb = s.marginDb := rfl
@[simp] theorem State.setFault_lastSync (f : Fault) (s : State) : (s.setFault f).lastSync = s.lastSync := rfl
@[simp] theorem State.setFault_fault (f : Fault) (s : State) : (s.setFault f).fault = some f := rfl
@[simp] theorem State.setFault_history (f : Fault) (s : State) : (s.setFault f).history = s.history := rfl
@[simp] theorem State.setFault_inbox (f : Fault) (s : State) : (s.setFault f).inbox = s.inbox := rfl
@[simp] theorem State.setFault_regAnswers (f : Fault) (s : State) : (s.setFault f).regAnswers = s.regAnswers := rfl
@[simp] theorem State.setFault_packets (f : Fault) (s : State) : (s.setFault f).packets = s.packets := rfl
@[simp] theorem State.setFault_regReads (f : Fault) (s : State) : (s.setFault f).regReads = s.regReads := rfl
@[simp] theorem State.setFault_fifoReads (f : Fault) (s : State) : (s.setFault f).fifoReads = s.fifoReads := rfl

@[simp] theorem State.log_linkState (es : List Event) (s : State) : (s.log es).linkState = s.linkState := rfl
@[simp] theorem State.log_mode (es : List Event) (s : State) : (s.log es).mode = s.mode := rfl
@[simp] theorem State.log_nodeId (es : List Event) (s : State) : (s.log es).nodeId = s.nodeId := rfl
@[simp] theorem State.log_groupParity (es : List Event) (s : State) : (s.log es).groupParity = s.groupParity := rfl
@[simp] theorem State.log_currentFrequency (es : List Event) (s : State) : (s.log es).currentFrequency = s.currentFrequency := rfl
@[simp] theorem State.log_txPowerDbm (es : List Event) (s : State) : (s.log es).txPowerDbm = s.txPowerDbm := rfl
@[simp] theorem State.log_rssiRaw (es : List Event) (s : State) : (s.log es).rssiRaw = s.rssiRaw := rfl
@[simp] theorem State.log_lnaGainDb (es : List Event) (s : State) : (s.log es).lnaGainDb = s.lnaGainDb := rfl
@[simp] theorem State.log_frequencyErrorHz (es : List Event) (s : State) : (s.log es).frequencyErrorHz = s.frequencyErrorHz := rfl
@[simp] theorem State.log_snrDb (es : List Event) (s : State) : (s.log es).snrDb = s.snrDb := rfl
@[simp] theorem State.log_marginDb (es : List Event) (s : State) : (s.log es).marginDb = s.marginDb := rfl
@[simp] theorem State.log_lastSync (es : List Event) (s : State) : (s.log es).lastSync = s.lastSync := rfl
@[simp] theorem State.log_fault (es : List Event) (s : State) : (s.log es).fault = s.fault := rfl
@[simp] theorem State.log_history (es : List Event) (s : State) : (s.log es).history = s.history ++ es := rfl
@[simp] theorem State.log_inbox (es : List Event) (s : State) : (s.log es).inbox = s.inbox := rfl
@[simp] theorem State.log_regAnswers (es : List Event) (s : State) : (s.log es).regAnswers = s.regAnswers := rfl
@[simp] theorem State.log_packets (es : List Event) (s : State) : (s.log es).packets = s.packets := rfl
@[simp] theorem State.log_regReads (es : List Event) (s : State) : (s.log es).regReads = s.regReads := rfl
@[simp] theorem State.log_fifoReads (es : List Event) (s : State) : (s.log es).fifoReads = s.fifoReads := rfl

@[simp] theorem State.setInbox_linkState (bytes : List Byte) (s : State) : (s.setInbox bytes).linkState = s.linkState := rfl
@[simp] theorem State.setInbox_mode (bytes : List Byte) (s : State) : (s.setInbox bytes).mode = s.mode := rfl
@[simp] theorem State.setInbox_nodeId (bytes : List Byte) (s : State) : (s.setInbox bytes).nodeId = s.nodeId := rfl
@[simp] theorem State.setInbox_groupParity (bytes : List Byte) (s : State) : (s.setInbox bytes).groupParity = s.groupParity := rfl
@[simp] theorem State.setInbox_currentFrequency (bytes : List Byte) (s : State) : (s.setInbox bytes).currentFrequency = s.currentFrequency := rfl
@[simp] theorem State.setInbox_txPowerDbm (bytes : List Byte) (s : State) : (s.setInbox bytes).txPowerDbm = s.txPowerDbm := rfl
@[simp] theorem State.setInbox_rssiRaw (bytes : List Byte) (s : State) : (s.setInbox bytes).rssiRaw = s.rssiRaw := rfl
@[simp] theorem State.setInbox_lnaGainDb (bytes : List Byte) (s : State) : (s.setInbox bytes).lnaGainDb = s.lnaGainDb := rfl
@[simp] theorem State.setInbox_frequencyErrorHz (bytes : List Byte) (s : State) : (s.setInbox bytes).frequencyErrorHz = s.frequencyErrorHz := rfl
@[simp] theorem State.setInbox_snrDb (bytes : List Byte) (s : State) : (s.setInbox bytes).snrDb = s.snrDb := rfl
@[simp] theorem State.setInbox_marginDb (bytes : List Byte) (s : State) : (s.setInbox bytes).marginDb = s.marginDb := rfl
@[simp] theorem State.setInbox_lastSync (bytes : List Byte) (s : State) : (s.setInbox bytes).lastSync = s.lastSync := rfl
@[simp] theorem State.setInbox_fault (bytes : List Byte) (s : State) : (s.setInbox bytes).fault = s.fault := rfl
@[simp] theorem State.setInbox_history (bytes : List Byte) (s : State) : (s.setInbox bytes).history = s.history := rfl
@[simp] theorem State.setInbox_inbox (bytes : List Byte) (s : State) : (s.setInbox bytes).inbox = bytes := rfl
@[simp] theorem State.setInbox_regAnswers (bytes : List Byte) (s : State) : (s.setInbox bytes).regAnswers = s.regAnswers := rfl
@[simp] theorem State.setInbox_packets (bytes : List Byte) (s : State) : (s.setInbox bytes).packets = s.packets := rfl
@[simp] theorem State.setInbox_regReads (bytes : List Byte) (s : State) : (s.setInbox bytes).regReads = s.regReads := rfl
@[simp] theorem State.setInbox_fifoReads (bytes : List Byte) (s : State) : (s.setInbox bytes).fifoReads = s.fifoReads := rfl

@[simp] theorem State.tookAnswer_linkState (s : State) : (s.tookAnswer).linkState = s.linkState := rfl
@[simp] theorem State.tookAnswer_mode (s : State) : (s.tookAnswer).mode = s.mode := rfl
@[simp] theorem State.tookAnswer_nodeId (s : State) : (s.tookAnswer).nodeId = s.nodeId := rfl
@[simp] theorem State.tookAnswer_groupParity (s : State) : (s.tookAnswer).groupParity = s.groupParity := rfl
@[simp] theorem State.tookAnswer_currentFrequency (s : State) : (s.tookAnswer).currentFrequency = s.currentFrequency := rfl
@[simp] theorem State.tookAnswer_txPowerDbm (s : State) : (s.tookAnswer).txPowerDbm = s.txPowerDbm := rfl
@[simp] theorem State.tookAnswer_rssiRaw (s : State) : (s.tookAnswer).rssiRaw = s.rssiRaw := rfl
@[simp] theorem State.tookAnswer_lnaGainDb (s : State) : (s.tookAnswer).lnaGainDb = s.lnaGainDb := rfl
@[simp] theorem State.tookAnswer_frequencyErrorHz (s : State) : (s.tookAnswer).frequencyErrorHz = s.frequencyErrorHz := rfl
@[simp] theorem State.tookAnswer_snrDb (s : State) : (s.tookAnswer).snrDb = s.snrDb := rfl
@[simp] theorem State.tookAnswer_marginDb (s : State) : (s.tookAnswer).marginDb = s.marginDb := rfl
@[simp] theorem State.tookAnswer_lastSync (s : State) : (s.tookAnswer).lastSync = s.lastSync := rfl
@[simp] theorem State.tookAnswer_fault (s : State) : (s.tookAnswer).fault = s.fault := rfl
@[simp] theorem State.tookAnswer_history (s : State) : (s.tookAnswer).history = s.history := rfl
@[simp] theorem State.tookAnswer_inbox (s : State) : (s.tookAnswer).inbox = s.inbox := rfl
@[simp] theorem State.tookAnswer_regAnswers (s : State) : (s.tookAnswer).regAnswers = s.regAnswers.tail := rfl
@[simp] theorem State.tookAnswer_packets (s : State) : (s.tookAnswer).packets = s.packets := rfl
@[simp] theorem State.tookAnswer_regReads (s : State) : (s.tookAnswer).regReads = s.regReads + 1 := rfl
@[simp] theorem State.tookAnswer_fifoReads (s : State) : (s.tookAnswer).fifoReads = s.fifoReads := rfl

@[simp] theorem State.tookPacket_linkState (s : State) : (s.tookPacket).linkState = s.linkState := rfl
@[simp] theorem State.tookPacket_mode (s : State) : (s.tookPacket).mode = s.mode := rfl
@[simp] theorem State.tookPacket_nodeId (s : State) : (s.tookPacket).nodeId = s.nodeId := rfl
@[simp] theorem State.tookPacket_groupParity (s : State) : (s.tookPacket).groupParity = s.groupParity := rfl
@[simp] theorem State.tookPacket_currentFrequency (s : State) : (s.tookPacket).currentFrequency = s.currentFrequency := rfl
@[simp] theorem State.tookPacket_txPowerDbm (s : State) : (s.tookPacket).txPowerDbm = s.txPowerDbm := rfl
@[simp] theorem State.tookPacket_rssiRaw (s : State) : (s.tookPacket).rssiRaw = s.rssiRaw := rfl
@[simp] theorem State.tookPacket_lnaGainDb (s : State) : (s.tookPacket).lnaGainDb = s.lnaGainDb := rfl
@[simp] theorem State.tookPacket_frequencyErrorHz (s : State) : (s.tookPacket).frequencyErrorHz = s.frequencyErrorHz := rfl
@[simp] theorem State.tookPacket_snrDb (s : State) : (s.tookPacket).snrDb = s.snrDb := rfl
@[simp] theorem State.tookPacket_marginDb (s : State) : (s.tookPacket).marginDb = s.marginDb := rfl
@[simp] theorem State.tookPacket_lastSync (s : State) : (s.tookPacket).lastSync = s.lastSync := rfl
@[simp] theorem State.tookPacket_fault (s : State) : (s.tookPacket).fault = s.fault := rfl
@[simp] theorem State.tookPacket_history (s : State) : (s.tookPacket).history = s.history := rfl
@[simp] theorem State.tookPacket_inbox (s : State) : (s.tookPacket).inbox = s.inbox := rfl
@[simp] theorem State.tookPacket_regAnswers (s : State) : (s.tookPacket).regAnswers = s.regAnswers := rfl
@[simp] theorem State.tookPacket_packets (s : State) : (s.tookPacket).packets = s.packets.tail := rfl
@[simp] theorem State.tookPacket_regReads (s : State) : (s.tookPacket).regReads = s.regReads := rfl
@[simp] theorem State.tookPacket_fifoReads (s : State) : (s.tookPacket).fifoReads = s.fifoReads + 1 := rfl

end Sys2Proof.Machine
end

