-- ==== Sys2Proof/Laws/After.lean ====
section
/-! SUPPORT. What each written-out state of Safety.lean holds in each field, one lemma per field. -/

namespace Sys2Proof.Machine

@[simp] theorem State.afterRead_linkState (c : Config) (r : Reg) (s : State) :
    (s.afterRead c r).linkState = s.linkState := rfl
@[simp] theorem State.afterRead_mode (c : Config) (r : Reg) (s : State) :
    (s.afterRead c r).mode = s.mode := rfl
@[simp] theorem State.afterRead_nodeId (c : Config) (r : Reg) (s : State) :
    (s.afterRead c r).nodeId = s.nodeId := rfl
@[simp] theorem State.afterRead_groupParity (c : Config) (r : Reg) (s : State) :
    (s.afterRead c r).groupParity = s.groupParity := rfl
@[simp] theorem State.afterRead_currentFrequency (c : Config) (r : Reg) (s : State) :
    (s.afterRead c r).currentFrequency = s.currentFrequency := rfl
@[simp] theorem State.afterRead_txPowerDbm (c : Config) (r : Reg) (s : State) :
    (s.afterRead c r).txPowerDbm = s.txPowerDbm := rfl
@[simp] theorem State.afterRead_rssiRaw (c : Config) (r : Reg) (s : State) :
    (s.afterRead c r).rssiRaw = s.rssiRaw := rfl
@[simp] theorem State.afterRead_lnaGainDb (c : Config) (r : Reg) (s : State) :
    (s.afterRead c r).lnaGainDb = s.lnaGainDb := rfl
@[simp] theorem State.afterRead_frequencyErrorHz (c : Config) (r : Reg) (s : State) :
    (s.afterRead c r).frequencyErrorHz = s.frequencyErrorHz := rfl
@[simp] theorem State.afterRead_snrDb (c : Config) (r : Reg) (s : State) :
    (s.afterRead c r).snrDb = s.snrDb := rfl
@[simp] theorem State.afterRead_marginDb (c : Config) (r : Reg) (s : State) :
    (s.afterRead c r).marginDb = s.marginDb := rfl
@[simp] theorem State.afterRead_lastSync (c : Config) (r : Reg) (s : State) :
    (s.afterRead c r).lastSync = s.lastSync := rfl
@[simp] theorem State.afterRead_fault (c : Config) (r : Reg) (s : State) :
    (s.afterRead c r).fault = s.fault := rfl
@[simp] theorem State.afterRead_history (c : Config) (r : Reg) (s : State) :
    (s.afterRead c r).history = s.history ++ [.transaction (.regRead (c.regAddr r) (s.answer 0))] := rfl
@[simp] theorem State.afterRead_inbox (c : Config) (r : Reg) (s : State) :
    (s.afterRead c r).inbox = s.inbox := rfl
@[simp] theorem State.afterRead_regAnswers (c : Config) (r : Reg) (s : State) :
    (s.afterRead c r).regAnswers = s.regAnswers.tail := rfl
@[simp] theorem State.afterRead_packets (c : Config) (r : Reg) (s : State) :
    (s.afterRead c r).packets = s.packets := rfl
@[simp] theorem State.afterRead_regReads (c : Config) (r : Reg) (s : State) :
    (s.afterRead c r).regReads = s.regReads + 1 := rfl
@[simp] theorem State.afterRead_fifoReads (c : Config) (r : Reg) (s : State) :
    (s.afterRead c r).fifoReads = s.fifoReads := rfl

@[simp] theorem State.afterWrite_linkState (c : Config) (r : Reg) (v : Byte) (s : State) :
    (s.afterWrite c r v).linkState = s.linkState := rfl
@[simp] theorem State.afterWrite_mode (c : Config) (r : Reg) (v : Byte) (s : State) :
    (s.afterWrite c r v).mode = s.mode := rfl
@[simp] theorem State.afterWrite_nodeId (c : Config) (r : Reg) (v : Byte) (s : State) :
    (s.afterWrite c r v).nodeId = s.nodeId := rfl
@[simp] theorem State.afterWrite_groupParity (c : Config) (r : Reg) (v : Byte) (s : State) :
    (s.afterWrite c r v).groupParity = s.groupParity := rfl
@[simp] theorem State.afterWrite_currentFrequency (c : Config) (r : Reg) (v : Byte) (s : State) :
    (s.afterWrite c r v).currentFrequency = s.currentFrequency := rfl
@[simp] theorem State.afterWrite_txPowerDbm (c : Config) (r : Reg) (v : Byte) (s : State) :
    (s.afterWrite c r v).txPowerDbm = s.txPowerDbm := rfl
@[simp] theorem State.afterWrite_rssiRaw (c : Config) (r : Reg) (v : Byte) (s : State) :
    (s.afterWrite c r v).rssiRaw = s.rssiRaw := rfl
@[simp] theorem State.afterWrite_lnaGainDb (c : Config) (r : Reg) (v : Byte) (s : State) :
    (s.afterWrite c r v).lnaGainDb = s.lnaGainDb := rfl
@[simp] theorem State.afterWrite_frequencyErrorHz (c : Config) (r : Reg) (v : Byte) (s : State) :
    (s.afterWrite c r v).frequencyErrorHz = s.frequencyErrorHz := rfl
@[simp] theorem State.afterWrite_snrDb (c : Config) (r : Reg) (v : Byte) (s : State) :
    (s.afterWrite c r v).snrDb = s.snrDb := rfl
@[simp] theorem State.afterWrite_marginDb (c : Config) (r : Reg) (v : Byte) (s : State) :
    (s.afterWrite c r v).marginDb = s.marginDb := rfl
@[simp] theorem State.afterWrite_lastSync (c : Config) (r : Reg) (v : Byte) (s : State) :
    (s.afterWrite c r v).lastSync = s.lastSync := rfl
@[simp] theorem State.afterWrite_fault (c : Config) (r : Reg) (v : Byte) (s : State) :
    (s.afterWrite c r v).fault = s.fault := rfl
@[simp] theorem State.afterWrite_history (c : Config) (r : Reg) (v : Byte) (s : State) :
    (s.afterWrite c r v).history = s.history ++ [.transaction (.regWrite (c.regAddr r) v)] := rfl
@[simp] theorem State.afterWrite_inbox (c : Config) (r : Reg) (v : Byte) (s : State) :
    (s.afterWrite c r v).inbox = s.inbox := rfl
@[simp] theorem State.afterWrite_regAnswers (c : Config) (r : Reg) (v : Byte) (s : State) :
    (s.afterWrite c r v).regAnswers = s.regAnswers := rfl
@[simp] theorem State.afterWrite_packets (c : Config) (r : Reg) (v : Byte) (s : State) :
    (s.afterWrite c r v).packets = s.packets := rfl
@[simp] theorem State.afterWrite_regReads (c : Config) (r : Reg) (v : Byte) (s : State) :
    (s.afterWrite c r v).regReads = s.regReads := rfl
@[simp] theorem State.afterWrite_fifoReads (c : Config) (r : Reg) (v : Byte) (s : State) :
    (s.afterWrite c r v).fifoReads = s.fifoReads := rfl

@[simp] theorem State.afterFifoRead_linkState (c : Config) (n : Nat) (s : State) :
    (s.afterFifoRead c n).linkState = s.linkState := rfl
@[simp] theorem State.afterFifoRead_mode (c : Config) (n : Nat) (s : State) :
    (s.afterFifoRead c n).mode = s.mode := rfl
@[simp] theorem State.afterFifoRead_nodeId (c : Config) (n : Nat) (s : State) :
    (s.afterFifoRead c n).nodeId = s.nodeId := rfl
@[simp] theorem State.afterFifoRead_groupParity (c : Config) (n : Nat) (s : State) :
    (s.afterFifoRead c n).groupParity = s.groupParity := rfl
@[simp] theorem State.afterFifoRead_currentFrequency (c : Config) (n : Nat) (s : State) :
    (s.afterFifoRead c n).currentFrequency = s.currentFrequency := rfl
@[simp] theorem State.afterFifoRead_txPowerDbm (c : Config) (n : Nat) (s : State) :
    (s.afterFifoRead c n).txPowerDbm = s.txPowerDbm := rfl
@[simp] theorem State.afterFifoRead_rssiRaw (c : Config) (n : Nat) (s : State) :
    (s.afterFifoRead c n).rssiRaw = s.rssiRaw := rfl
@[simp] theorem State.afterFifoRead_lnaGainDb (c : Config) (n : Nat) (s : State) :
    (s.afterFifoRead c n).lnaGainDb = s.lnaGainDb := rfl
@[simp] theorem State.afterFifoRead_frequencyErrorHz (c : Config) (n : Nat) (s : State) :
    (s.afterFifoRead c n).frequencyErrorHz = s.frequencyErrorHz := rfl
@[simp] theorem State.afterFifoRead_snrDb (c : Config) (n : Nat) (s : State) :
    (s.afterFifoRead c n).snrDb = s.snrDb := rfl
@[simp] theorem State.afterFifoRead_marginDb (c : Config) (n : Nat) (s : State) :
    (s.afterFifoRead c n).marginDb = s.marginDb := rfl
@[simp] theorem State.afterFifoRead_lastSync (c : Config) (n : Nat) (s : State) :
    (s.afterFifoRead c n).lastSync = s.lastSync := rfl
@[simp] theorem State.afterFifoRead_fault (c : Config) (n : Nat) (s : State) :
    (s.afterFifoRead c n).fault = s.fault := rfl
@[simp] theorem State.afterFifoRead_history (c : Config) (n : Nat) (s : State) :
    (s.afterFifoRead c n).history = s.history ++ [.transaction (.fifoRead (c.regAddr .fifo) n s.packetCount (s.packetData n))] := rfl
@[simp] theorem State.afterFifoRead_inbox (c : Config) (n : Nat) (s : State) :
    (s.afterFifoRead c n).inbox = s.inbox := rfl
@[simp] theorem State.afterFifoRead_regAnswers (c : Config) (n : Nat) (s : State) :
    (s.afterFifoRead c n).regAnswers = s.regAnswers := rfl
@[simp] theorem State.afterFifoRead_packets (c : Config) (n : Nat) (s : State) :
    (s.afterFifoRead c n).packets = s.packets.tail := rfl
@[simp] theorem State.afterFifoRead_regReads (c : Config) (n : Nat) (s : State) :
    (s.afterFifoRead c n).regReads = s.regReads := rfl
@[simp] theorem State.afterFifoRead_fifoReads (c : Config) (n : Nat) (s : State) :
    (s.afterFifoRead c n).fifoReads = s.fifoReads + 1 := rfl

@[simp] theorem State.afterFifoWrite_linkState (c : Config) (bytes : List Byte) (s : State) :
    (s.afterFifoWrite c bytes).linkState = s.linkState := rfl
@[simp] theorem State.afterFifoWrite_mode (c : Config) (bytes : List Byte) (s : State) :
    (s.afterFifoWrite c bytes).mode = s.mode := rfl
@[simp] theorem State.afterFifoWrite_nodeId (c : Config) (bytes : List Byte) (s : State) :
    (s.afterFifoWrite c bytes).nodeId = s.nodeId := rfl
@[simp] theorem State.afterFifoWrite_groupParity (c : Config) (bytes : List Byte) (s : State) :
    (s.afterFifoWrite c bytes).groupParity = s.groupParity := rfl
@[simp] theorem State.afterFifoWrite_currentFrequency (c : Config) (bytes : List Byte) (s : State) :
    (s.afterFifoWrite c bytes).currentFrequency = s.currentFrequency := rfl
@[simp] theorem State.afterFifoWrite_txPowerDbm (c : Config) (bytes : List Byte) (s : State) :
    (s.afterFifoWrite c bytes).txPowerDbm = s.txPowerDbm := rfl
@[simp] theorem State.afterFifoWrite_rssiRaw (c : Config) (bytes : List Byte) (s : State) :
    (s.afterFifoWrite c bytes).rssiRaw = s.rssiRaw := rfl
@[simp] theorem State.afterFifoWrite_lnaGainDb (c : Config) (bytes : List Byte) (s : State) :
    (s.afterFifoWrite c bytes).lnaGainDb = s.lnaGainDb := rfl
@[simp] theorem State.afterFifoWrite_frequencyErrorHz (c : Config) (bytes : List Byte) (s : State) :
    (s.afterFifoWrite c bytes).frequencyErrorHz = s.frequencyErrorHz := rfl
@[simp] theorem State.afterFifoWrite_snrDb (c : Config) (bytes : List Byte) (s : State) :
    (s.afterFifoWrite c bytes).snrDb = s.snrDb := rfl
@[simp] theorem State.afterFifoWrite_marginDb (c : Config) (bytes : List Byte) (s : State) :
    (s.afterFifoWrite c bytes).marginDb = s.marginDb := rfl
@[simp] theorem State.afterFifoWrite_lastSync (c : Config) (bytes : List Byte) (s : State) :
    (s.afterFifoWrite c bytes).lastSync = s.lastSync := rfl
@[simp] theorem State.afterFifoWrite_fault (c : Config) (bytes : List Byte) (s : State) :
    (s.afterFifoWrite c bytes).fault = s.fault := rfl
@[simp] theorem State.afterFifoWrite_history (c : Config) (bytes : List Byte) (s : State) :
    (s.afterFifoWrite c bytes).history = s.history ++ [.transaction (.fifoWrite (c.regAddr .fifo) bytes)] := rfl
@[simp] theorem State.afterFifoWrite_inbox (c : Config) (bytes : List Byte) (s : State) :
    (s.afterFifoWrite c bytes).inbox = s.inbox := rfl
@[simp] theorem State.afterFifoWrite_regAnswers (c : Config) (bytes : List Byte) (s : State) :
    (s.afterFifoWrite c bytes).regAnswers = s.regAnswers := rfl
@[simp] theorem State.afterFifoWrite_packets (c : Config) (bytes : List Byte) (s : State) :
    (s.afterFifoWrite c bytes).packets = s.packets := rfl
@[simp] theorem State.afterFifoWrite_regReads (c : Config) (bytes : List Byte) (s : State) :
    (s.afterFifoWrite c bytes).regReads = s.regReads := rfl
@[simp] theorem State.afterFifoWrite_fifoReads (c : Config) (bytes : List Byte) (s : State) :
    (s.afterFifoWrite c bytes).fifoReads = s.fifoReads := rfl

@[simp] theorem State.afterSetMode_linkState (c : Config) (m : Mode) (s : State) :
    (s.afterSetMode c m).linkState = s.linkState := rfl
@[simp] theorem State.afterSetMode_mode (c : Config) (m : Mode) (s : State) :
    (s.afterSetMode c m).mode = some m := rfl
@[simp] theorem State.afterSetMode_nodeId (c : Config) (m : Mode) (s : State) :
    (s.afterSetMode c m).nodeId = s.nodeId := rfl
@[simp] theorem State.afterSetMode_groupParity (c : Config) (m : Mode) (s : State) :
    (s.afterSetMode c m).groupParity = s.groupParity := rfl
@[simp] theorem State.afterSetMode_currentFrequency (c : Config) (m : Mode) (s : State) :
    (s.afterSetMode c m).currentFrequency = s.currentFrequency := rfl
@[simp] theorem State.afterSetMode_txPowerDbm (c : Config) (m : Mode) (s : State) :
    (s.afterSetMode c m).txPowerDbm = s.txPowerDbm := rfl
@[simp] theorem State.afterSetMode_rssiRaw (c : Config) (m : Mode) (s : State) :
    (s.afterSetMode c m).rssiRaw = s.rssiRaw := rfl
@[simp] theorem State.afterSetMode_lnaGainDb (c : Config) (m : Mode) (s : State) :
    (s.afterSetMode c m).lnaGainDb = s.lnaGainDb := rfl
@[simp] theorem State.afterSetMode_frequencyErrorHz (c : Config) (m : Mode) (s : State) :
    (s.afterSetMode c m).frequencyErrorHz = s.frequencyErrorHz := rfl
@[simp] theorem State.afterSetMode_snrDb (c : Config) (m : Mode) (s : State) :
    (s.afterSetMode c m).snrDb = s.snrDb := rfl
@[simp] theorem State.afterSetMode_marginDb (c : Config) (m : Mode) (s : State) :
    (s.afterSetMode c m).marginDb = s.marginDb := rfl
@[simp] theorem State.afterSetMode_lastSync (c : Config) (m : Mode) (s : State) :
    (s.afterSetMode c m).lastSync = s.lastSync := rfl
@[simp] theorem State.afterSetMode_fault (c : Config) (m : Mode) (s : State) :
    (s.afterSetMode c m).fault = s.fault := rfl
@[simp] theorem State.afterSetMode_history (c : Config) (m : Mode) (s : State) :
    (s.afterSetMode c m).history = s.history ++ [.transaction (.regWrite (c.regAddr .opMode) (opModeByte c m))] := rfl
@[simp] theorem State.afterSetMode_inbox (c : Config) (m : Mode) (s : State) :
    (s.afterSetMode c m).inbox = s.inbox := rfl
@[simp] theorem State.afterSetMode_regAnswers (c : Config) (m : Mode) (s : State) :
    (s.afterSetMode c m).regAnswers = s.regAnswers := rfl
@[simp] theorem State.afterSetMode_packets (c : Config) (m : Mode) (s : State) :
    (s.afterSetMode c m).packets = s.packets := rfl
@[simp] theorem State.afterSetMode_regReads (c : Config) (m : Mode) (s : State) :
    (s.afterSetMode c m).regReads = s.regReads := rfl
@[simp] theorem State.afterSetMode_fifoReads (c : Config) (m : Mode) (s : State) :
    (s.afterSetMode c m).fifoReads = s.fifoReads := rfl

@[simp] theorem State.afterFrequency_linkState (c : Config) (hz : Nat) (s : State) :
    (s.afterFrequency c hz).linkState = s.linkState := rfl
@[simp] theorem State.afterFrequency_mode (c : Config) (hz : Nat) (s : State) :
    (s.afterFrequency c hz).mode = s.mode := rfl
@[simp] theorem State.afterFrequency_nodeId (c : Config) (hz : Nat) (s : State) :
    (s.afterFrequency c hz).nodeId = s.nodeId := rfl
@[simp] theorem State.afterFrequency_groupParity (c : Config) (hz : Nat) (s : State) :
    (s.afterFrequency c hz).groupParity = s.groupParity := rfl
@[simp] theorem State.afterFrequency_currentFrequency (c : Config) (hz : Nat) (s : State) :
    (s.afterFrequency c hz).currentFrequency = some (BitVec.ofNat 32 hz) := rfl
@[simp] theorem State.afterFrequency_txPowerDbm (c : Config) (hz : Nat) (s : State) :
    (s.afterFrequency c hz).txPowerDbm = s.txPowerDbm := rfl
@[simp] theorem State.afterFrequency_rssiRaw (c : Config) (hz : Nat) (s : State) :
    (s.afterFrequency c hz).rssiRaw = s.rssiRaw := rfl
@[simp] theorem State.afterFrequency_lnaGainDb (c : Config) (hz : Nat) (s : State) :
    (s.afterFrequency c hz).lnaGainDb = s.lnaGainDb := rfl
@[simp] theorem State.afterFrequency_frequencyErrorHz (c : Config) (hz : Nat) (s : State) :
    (s.afterFrequency c hz).frequencyErrorHz = s.frequencyErrorHz := rfl
@[simp] theorem State.afterFrequency_snrDb (c : Config) (hz : Nat) (s : State) :
    (s.afterFrequency c hz).snrDb = s.snrDb := rfl
@[simp] theorem State.afterFrequency_marginDb (c : Config) (hz : Nat) (s : State) :
    (s.afterFrequency c hz).marginDb = s.marginDb := rfl
@[simp] theorem State.afterFrequency_lastSync (c : Config) (hz : Nat) (s : State) :
    (s.afterFrequency c hz).lastSync = s.lastSync := rfl
@[simp] theorem State.afterFrequency_fault (c : Config) (hz : Nat) (s : State) :
    (s.afterFrequency c hz).fault = s.fault := rfl
@[simp] theorem State.afterFrequency_history (c : Config) (hz : Nat) (s : State) :
    (s.afterFrequency c hz).history = s.history ++
      [.transaction (.regWrite (c.regAddr .frfMsb) (frfMsb hz)), .transaction (.regWrite (c.regAddr .frfMid) (frfMid hz)),
       .transaction (.regWrite (c.regAddr .frfLsb) (frfLsb hz))] := rfl
@[simp] theorem State.afterFrequency_inbox (c : Config) (hz : Nat) (s : State) :
    (s.afterFrequency c hz).inbox = s.inbox := rfl
@[simp] theorem State.afterFrequency_regAnswers (c : Config) (hz : Nat) (s : State) :
    (s.afterFrequency c hz).regAnswers = s.regAnswers := rfl
@[simp] theorem State.afterFrequency_packets (c : Config) (hz : Nat) (s : State) :
    (s.afterFrequency c hz).packets = s.packets := rfl
@[simp] theorem State.afterFrequency_regReads (c : Config) (hz : Nat) (s : State) :
    (s.afterFrequency c hz).regReads = s.regReads := rfl
@[simp] theorem State.afterFrequency_fifoReads (c : Config) (hz : Nat) (s : State) :
    (s.afterFrequency c hz).fifoReads = s.fifoReads := rfl

@[simp] theorem State.afterTxPower_linkState (c : Config) (p : Int) (s : State) :
    (s.afterTxPower c p).linkState = s.linkState := rfl
@[simp] theorem State.afterTxPower_mode (c : Config) (p : Int) (s : State) :
    (s.afterTxPower c p).mode = s.mode := rfl
@[simp] theorem State.afterTxPower_nodeId (c : Config) (p : Int) (s : State) :
    (s.afterTxPower c p).nodeId = s.nodeId := rfl
@[simp] theorem State.afterTxPower_groupParity (c : Config) (p : Int) (s : State) :
    (s.afterTxPower c p).groupParity = s.groupParity := rfl
@[simp] theorem State.afterTxPower_currentFrequency (c : Config) (p : Int) (s : State) :
    (s.afterTxPower c p).currentFrequency = s.currentFrequency := rfl
@[simp] theorem State.afterTxPower_txPowerDbm (c : Config) (p : Int) (s : State) :
    (s.afterTxPower c p).txPowerDbm = some (clamp p (txLo c) (txHi c)) := rfl
@[simp] theorem State.afterTxPower_rssiRaw (c : Config) (p : Int) (s : State) :
    (s.afterTxPower c p).rssiRaw = s.rssiRaw := rfl
@[simp] theorem State.afterTxPower_lnaGainDb (c : Config) (p : Int) (s : State) :
    (s.afterTxPower c p).lnaGainDb = s.lnaGainDb := rfl
@[simp] theorem State.afterTxPower_frequencyErrorHz (c : Config) (p : Int) (s : State) :
    (s.afterTxPower c p).frequencyErrorHz = s.frequencyErrorHz := rfl
@[simp] theorem State.afterTxPower_snrDb (c : Config) (p : Int) (s : State) :
    (s.afterTxPower c p).snrDb = s.snrDb := rfl
@[simp] theorem State.afterTxPower_marginDb (c : Config) (p : Int) (s : State) :
    (s.afterTxPower c p).marginDb = s.marginDb := rfl
@[simp] theorem State.afterTxPower_lastSync (c : Config) (p : Int) (s : State) :
    (s.afterTxPower c p).lastSync = s.lastSync := rfl
@[simp] theorem State.afterTxPower_fault (c : Config) (p : Int) (s : State) :
    (s.afterTxPower c p).fault = s.fault := rfl
@[simp] theorem State.afterTxPower_history (c : Config) (p : Int) (s : State) :
    (s.afterTxPower c p).history = s.history ++
      (c.paLevelWrites (clamp p (txLo c) (txHi c))).map fun w => .transaction (.regWrite (targetAddr c w.1) w.2) := rfl
@[simp] theorem State.afterTxPower_inbox (c : Config) (p : Int) (s : State) :
    (s.afterTxPower c p).inbox = s.inbox := rfl
@[simp] theorem State.afterTxPower_regAnswers (c : Config) (p : Int) (s : State) :
    (s.afterTxPower c p).regAnswers = s.regAnswers := rfl
@[simp] theorem State.afterTxPower_packets (c : Config) (p : Int) (s : State) :
    (s.afterTxPower c p).packets = s.packets := rfl
@[simp] theorem State.afterTxPower_regReads (c : Config) (p : Int) (s : State) :
    (s.afterTxPower c p).regReads = s.regReads := rfl
@[simp] theorem State.afterTxPower_fifoReads (c : Config) (p : Int) (s : State) :
    (s.afterTxPower c p).fifoReads = s.fifoReads := rfl

@[simp] theorem State.afterPayloadReads_linkState (c : Config) (n : Nat) (s : State) :
    (s.afterPayloadReads c n).linkState = s.linkState := rfl
@[simp] theorem State.afterPayloadReads_mode (c : Config) (n : Nat) (s : State) :
    (s.afterPayloadReads c n).mode = s.mode := rfl
@[simp] theorem State.afterPayloadReads_nodeId (c : Config) (n : Nat) (s : State) :
    (s.afterPayloadReads c n).nodeId = s.nodeId := rfl
@[simp] theorem State.afterPayloadReads_groupParity (c : Config) (n : Nat) (s : State) :
    (s.afterPayloadReads c n).groupParity = s.groupParity := rfl
@[simp] theorem State.afterPayloadReads_currentFrequency (c : Config) (n : Nat) (s : State) :
    (s.afterPayloadReads c n).currentFrequency = s.currentFrequency := rfl
@[simp] theorem State.afterPayloadReads_txPowerDbm (c : Config) (n : Nat) (s : State) :
    (s.afterPayloadReads c n).txPowerDbm = s.txPowerDbm := rfl
@[simp] theorem State.afterPayloadReads_rssiRaw (c : Config) (n : Nat) (s : State) :
    (s.afterPayloadReads c n).rssiRaw = s.rssiRaw := rfl
@[simp] theorem State.afterPayloadReads_lnaGainDb (c : Config) (n : Nat) (s : State) :
    (s.afterPayloadReads c n).lnaGainDb = s.lnaGainDb := rfl
@[simp] theorem State.afterPayloadReads_frequencyErrorHz (c : Config) (n : Nat) (s : State) :
    (s.afterPayloadReads c n).frequencyErrorHz = s.frequencyErrorHz := rfl
@[simp] theorem State.afterPayloadReads_snrDb (c : Config) (n : Nat) (s : State) :
    (s.afterPayloadReads c n).snrDb = s.snrDb := rfl
@[simp] theorem State.afterPayloadReads_marginDb (c : Config) (n : Nat) (s : State) :
    (s.afterPayloadReads c n).marginDb = s.marginDb := rfl
@[simp] theorem State.afterPayloadReads_lastSync (c : Config) (n : Nat) (s : State) :
    (s.afterPayloadReads c n).lastSync = s.lastSync := rfl
@[simp] theorem State.afterPayloadReads_fault (c : Config) (n : Nat) (s : State) :
    (s.afterPayloadReads c n).fault = s.fault := rfl
@[simp] theorem State.afterPayloadReads_history (c : Config) (n : Nat) (s : State) :
    (s.afterPayloadReads c n).history = s.history ++
      [.transaction (.regRead (c.regAddr .rssiValue) (s.answer 0)),
       .transaction (.fifoRead (c.regAddr .fifo) n s.packetCount (s.packetData n)),
       .transaction (.regRead (c.regAddr .rssiValue) (s.answer 1))] := rfl
@[simp] theorem State.afterPayloadReads_inbox (c : Config) (n : Nat) (s : State) :
    (s.afterPayloadReads c n).inbox = s.inbox := rfl
@[simp] theorem State.afterPayloadReads_regAnswers (c : Config) (n : Nat) (s : State) :
    (s.afterPayloadReads c n).regAnswers = s.regAnswers.drop 2 := rfl
@[simp] theorem State.afterPayloadReads_packets (c : Config) (n : Nat) (s : State) :
    (s.afterPayloadReads c n).packets = s.packets.tail := rfl
@[simp] theorem State.afterPayloadReads_regReads (c : Config) (n : Nat) (s : State) :
    (s.afterPayloadReads c n).regReads = s.regReads + 2 := rfl
@[simp] theorem State.afterPayloadReads_fifoReads (c : Config) (n : Nat) (s : State) :
    (s.afterPayloadReads c n).fifoReads = s.fifoReads + 1 := rfl

@[simp] theorem State.afterPayload_linkState (c : Config) (n : Nat) (r : Byte) (s : State) :
    (s.afterPayload c n r).linkState = s.linkState := rfl
@[simp] theorem State.afterPayload_mode (c : Config) (n : Nat) (r : Byte) (s : State) :
    (s.afterPayload c n r).mode = s.mode := rfl
@[simp] theorem State.afterPayload_nodeId (c : Config) (n : Nat) (r : Byte) (s : State) :
    (s.afterPayload c n r).nodeId = s.nodeId := rfl
@[simp] theorem State.afterPayload_groupParity (c : Config) (n : Nat) (r : Byte) (s : State) :
    (s.afterPayload c n r).groupParity = s.groupParity := rfl
@[simp] theorem State.afterPayload_currentFrequency (c : Config) (n : Nat) (r : Byte) (s : State) :
    (s.afterPayload c n r).currentFrequency = s.currentFrequency := rfl
@[simp] theorem State.afterPayload_txPowerDbm (c : Config) (n : Nat) (r : Byte) (s : State) :
    (s.afterPayload c n r).txPowerDbm = s.txPowerDbm := rfl
@[simp] theorem State.afterPayload_rssiRaw (c : Config) (n : Nat) (r : Byte) (s : State) :
    (s.afterPayload c n r).rssiRaw = s.rssiRaw := rfl
@[simp] theorem State.afterPayload_lnaGainDb (c : Config) (n : Nat) (r : Byte) (s : State) :
    (s.afterPayload c n r).lnaGainDb = s.lnaGainDb := rfl
@[simp] theorem State.afterPayload_frequencyErrorHz (c : Config) (n : Nat) (r : Byte) (s : State) :
    (s.afterPayload c n r).frequencyErrorHz = s.frequencyErrorHz := rfl
@[simp] theorem State.afterPayload_snrDb (c : Config) (n : Nat) (r : Byte) (s : State) :
    (s.afterPayload c n r).snrDb = some (snrOf c (s.answer 0) (s.answer 1) r) := rfl
@[simp] theorem State.afterPayload_marginDb (c : Config) (n : Nat) (r : Byte) (s : State) :
    (s.afterPayload c n r).marginDb = some (linkMargin (snrOf c (s.answer 0) (s.answer 1) r)) := rfl
@[simp] theorem State.afterPayload_lastSync (c : Config) (n : Nat) (r : Byte) (s : State) :
    (s.afterPayload c n r).lastSync = s.lastSync := rfl
@[simp] theorem State.afterPayload_fault (c : Config) (n : Nat) (r : Byte) (s : State) :
    (s.afterPayload c n r).fault = s.fault := rfl
@[simp] theorem State.afterPayload_history (c : Config) (n : Nat) (r : Byte) (s : State) :
    (s.afterPayload c n r).history = (s.afterPayloadReads c n).history := rfl
@[simp] theorem State.afterPayload_inbox (c : Config) (n : Nat) (r : Byte) (s : State) :
    (s.afterPayload c n r).inbox = s.inbox := rfl
@[simp] theorem State.afterPayload_regAnswers (c : Config) (n : Nat) (r : Byte) (s : State) :
    (s.afterPayload c n r).regAnswers = s.regAnswers.drop 2 := rfl
@[simp] theorem State.afterPayload_packets (c : Config) (n : Nat) (r : Byte) (s : State) :
    (s.afterPayload c n r).packets = s.packets.tail := rfl
@[simp] theorem State.afterPayload_regReads (c : Config) (n : Nat) (r : Byte) (s : State) :
    (s.afterPayload c n r).regReads = s.regReads + 2 := rfl
@[simp] theorem State.afterPayload_fifoReads (c : Config) (n : Nat) (r : Byte) (s : State) :
    (s.afterPayload c n r).fifoReads = s.fifoReads + 1 := rfl

@[simp] theorem State.returning_linkState (i : Instr) (r : Result) (s : State) :
    (s.returning i r).linkState = s.linkState := rfl
@[simp] theorem State.returning_mode (i : Instr) (r : Result) (s : State) :
    (s.returning i r).mode = s.mode := rfl
@[simp] theorem State.returning_nodeId (i : Instr) (r : Result) (s : State) :
    (s.returning i r).nodeId = s.nodeId := rfl
@[simp] theorem State.returning_groupParity (i : Instr) (r : Result) (s : State) :
    (s.returning i r).groupParity = s.groupParity := rfl
@[simp] theorem State.returning_currentFrequency (i : Instr) (r : Result) (s : State) :
    (s.returning i r).currentFrequency = s.currentFrequency := rfl
@[simp] theorem State.returning_txPowerDbm (i : Instr) (r : Result) (s : State) :
    (s.returning i r).txPowerDbm = s.txPowerDbm := rfl
@[simp] theorem State.returning_rssiRaw (i : Instr) (r : Result) (s : State) :
    (s.returning i r).rssiRaw = s.rssiRaw := rfl
@[simp] theorem State.returning_lnaGainDb (i : Instr) (r : Result) (s : State) :
    (s.returning i r).lnaGainDb = s.lnaGainDb := rfl
@[simp] theorem State.returning_frequencyErrorHz (i : Instr) (r : Result) (s : State) :
    (s.returning i r).frequencyErrorHz = s.frequencyErrorHz := rfl
@[simp] theorem State.returning_snrDb (i : Instr) (r : Result) (s : State) :
    (s.returning i r).snrDb = s.snrDb := rfl
@[simp] theorem State.returning_marginDb (i : Instr) (r : Result) (s : State) :
    (s.returning i r).marginDb = s.marginDb := rfl
@[simp] theorem State.returning_lastSync (i : Instr) (r : Result) (s : State) :
    (s.returning i r).lastSync = s.lastSync := rfl
@[simp] theorem State.returning_fault (i : Instr) (r : Result) (s : State) :
    (s.returning i r).fault = s.fault := rfl
@[simp] theorem State.returning_history (i : Instr) (r : Result) (s : State) :
    (s.returning i r).history = s.history ++ [.returned i r] := rfl
@[simp] theorem State.returning_inbox (i : Instr) (r : Result) (s : State) :
    (s.returning i r).inbox = s.inbox := rfl
@[simp] theorem State.returning_regAnswers (i : Instr) (r : Result) (s : State) :
    (s.returning i r).regAnswers = s.regAnswers := rfl
@[simp] theorem State.returning_packets (i : Instr) (r : Result) (s : State) :
    (s.returning i r).packets = s.packets := rfl
@[simp] theorem State.returning_regReads (i : Instr) (r : Result) (s : State) :
    (s.returning i r).regReads = s.regReads := rfl
@[simp] theorem State.returning_fifoReads (i : Instr) (r : Result) (s : State) :
    (s.returning i r).fifoReads = s.fifoReads := rfl

@[simp] theorem State.faulting_linkState (f : Fault) (s : State) :
    (s.faulting f).linkState = s.linkState := rfl
@[simp] theorem State.faulting_mode (f : Fault) (s : State) :
    (s.faulting f).mode = s.mode := rfl
@[simp] theorem State.faulting_nodeId (f : Fault) (s : State) :
    (s.faulting f).nodeId = s.nodeId := rfl
@[simp] theorem State.faulting_groupParity (f : Fault) (s : State) :
    (s.faulting f).groupParity = s.groupParity := rfl
@[simp] theorem State.faulting_currentFrequency (f : Fault) (s : State) :
    (s.faulting f).currentFrequency = s.currentFrequency := rfl
@[simp] theorem State.faulting_txPowerDbm (f : Fault) (s : State) :
    (s.faulting f).txPowerDbm = s.txPowerDbm := rfl
@[simp] theorem State.faulting_rssiRaw (f : Fault) (s : State) :
    (s.faulting f).rssiRaw = s.rssiRaw := rfl
@[simp] theorem State.faulting_lnaGainDb (f : Fault) (s : State) :
    (s.faulting f).lnaGainDb = s.lnaGainDb := rfl
@[simp] theorem State.faulting_frequencyErrorHz (f : Fault) (s : State) :
    (s.faulting f).frequencyErrorHz = s.frequencyErrorHz := rfl
@[simp] theorem State.faulting_snrDb (f : Fault) (s : State) :
    (s.faulting f).snrDb = s.snrDb := rfl
@[simp] theorem State.faulting_marginDb (f : Fault) (s : State) :
    (s.faulting f).marginDb = s.marginDb := rfl
@[simp] theorem State.faulting_lastSync (f : Fault) (s : State) :
    (s.faulting f).lastSync = s.lastSync := rfl
@[simp] theorem State.faulting_fault (f : Fault) (s : State) :
    (s.faulting f).fault = some f := rfl
@[simp] theorem State.faulting_history (f : Fault) (s : State) :
    (s.faulting f).history = s.history := rfl
@[simp] theorem State.faulting_inbox (f : Fault) (s : State) :
    (s.faulting f).inbox = s.inbox := rfl
@[simp] theorem State.faulting_regAnswers (f : Fault) (s : State) :
    (s.faulting f).regAnswers = s.regAnswers := rfl
@[simp] theorem State.faulting_packets (f : Fault) (s : State) :
    (s.faulting f).packets = s.packets := rfl
@[simp] theorem State.faulting_regReads (f : Fault) (s : State) :
    (s.faulting f).regReads = s.regReads := rfl
@[simp] theorem State.faulting_fifoReads (f : Fault) (s : State) :
    (s.faulting f).fifoReads = s.fifoReads := rfl

@[simp] theorem State.withIdentity_linkState (c : Config) (id group : Byte) (s : State) :
    (s.withIdentity c id group).linkState = s.linkState := rfl
@[simp] theorem State.withIdentity_mode (c : Config) (id group : Byte) (s : State) :
    (s.withIdentity c id group).mode = s.mode := rfl
@[simp] theorem State.withIdentity_nodeId (c : Config) (id group : Byte) (s : State) :
    (s.withIdentity c id group).nodeId = some (lowSix id) := rfl
@[simp] theorem State.withIdentity_groupParity (c : Config) (id group : Byte) (s : State) :
    (s.withIdentity c id group).groupParity = some (groupParityOf c group) := rfl
@[simp] theorem State.withIdentity_currentFrequency (c : Config) (id group : Byte) (s : State) :
    (s.withIdentity c id group).currentFrequency = s.currentFrequency := rfl
@[simp] theorem State.withIdentity_txPowerDbm (c : Config) (id group : Byte) (s : State) :
    (s.withIdentity c id group).txPowerDbm = s.txPowerDbm := rfl
@[simp] theorem State.withIdentity_rssiRaw (c : Config) (id group : Byte) (s : State) :
    (s.withIdentity c id group).rssiRaw = s.rssiRaw := rfl
@[simp] theorem State.withIdentity_lnaGainDb (c : Config) (id group : Byte) (s : State) :
    (s.withIdentity c id group).lnaGainDb = s.lnaGainDb := rfl
@[simp] theorem State.withIdentity_frequencyErrorHz (c : Config) (id group : Byte) (s : State) :
    (s.withIdentity c id group).frequencyErrorHz = s.frequencyErrorHz := rfl
@[simp] theorem State.withIdentity_snrDb (c : Config) (id group : Byte) (s : State) :
    (s.withIdentity c id group).snrDb = s.snrDb := rfl
@[simp] theorem State.withIdentity_marginDb (c : Config) (id group : Byte) (s : State) :
    (s.withIdentity c id group).marginDb = s.marginDb := rfl
@[simp] theorem State.withIdentity_lastSync (c : Config) (id group : Byte) (s : State) :
    (s.withIdentity c id group).lastSync = s.lastSync := rfl
@[simp] theorem State.withIdentity_fault (c : Config) (id group : Byte) (s : State) :
    (s.withIdentity c id group).fault = s.fault := rfl
@[simp] theorem State.withIdentity_history (c : Config) (id group : Byte) (s : State) :
    (s.withIdentity c id group).history = s.history := rfl
@[simp] theorem State.withIdentity_inbox (c : Config) (id group : Byte) (s : State) :
    (s.withIdentity c id group).inbox = s.inbox := rfl
@[simp] theorem State.withIdentity_regAnswers (c : Config) (id group : Byte) (s : State) :
    (s.withIdentity c id group).regAnswers = s.regAnswers := rfl
@[simp] theorem State.withIdentity_packets (c : Config) (id group : Byte) (s : State) :
    (s.withIdentity c id group).packets = s.packets := rfl
@[simp] theorem State.withIdentity_regReads (c : Config) (id group : Byte) (s : State) :
    (s.withIdentity c id group).regReads = s.regReads := rfl
@[simp] theorem State.withIdentity_fifoReads (c : Config) (id group : Byte) (s : State) :
    (s.withIdentity c id group).fifoReads = s.fifoReads := rfl

@[simp] theorem State.afterAttempts_linkState (c : Config) (v : Byte) (k : Nat) (s : State) :
    (s.afterAttempts c v k).linkState = s.linkState := rfl
@[simp] theorem State.afterAttempts_mode (c : Config) (v : Byte) (k : Nat) (s : State) :
    (s.afterAttempts c v k).mode = s.mode := rfl
@[simp] theorem State.afterAttempts_nodeId (c : Config) (v : Byte) (k : Nat) (s : State) :
    (s.afterAttempts c v k).nodeId = s.nodeId := rfl
@[simp] theorem State.afterAttempts_groupParity (c : Config) (v : Byte) (k : Nat) (s : State) :
    (s.afterAttempts c v k).groupParity = s.groupParity := rfl
@[simp] theorem State.afterAttempts_currentFrequency (c : Config) (v : Byte) (k : Nat) (s : State) :
    (s.afterAttempts c v k).currentFrequency = s.currentFrequency := rfl
@[simp] theorem State.afterAttempts_txPowerDbm (c : Config) (v : Byte) (k : Nat) (s : State) :
    (s.afterAttempts c v k).txPowerDbm = s.txPowerDbm := rfl
@[simp] theorem State.afterAttempts_rssiRaw (c : Config) (v : Byte) (k : Nat) (s : State) :
    (s.afterAttempts c v k).rssiRaw = s.rssiRaw := rfl
@[simp] theorem State.afterAttempts_lnaGainDb (c : Config) (v : Byte) (k : Nat) (s : State) :
    (s.afterAttempts c v k).lnaGainDb = s.lnaGainDb := rfl
@[simp] theorem State.afterAttempts_frequencyErrorHz (c : Config) (v : Byte) (k : Nat) (s : State) :
    (s.afterAttempts c v k).frequencyErrorHz = s.frequencyErrorHz := rfl
@[simp] theorem State.afterAttempts_snrDb (c : Config) (v : Byte) (k : Nat) (s : State) :
    (s.afterAttempts c v k).snrDb = s.snrDb := rfl
@[simp] theorem State.afterAttempts_marginDb (c : Config) (v : Byte) (k : Nat) (s : State) :
    (s.afterAttempts c v k).marginDb = s.marginDb := rfl
@[simp] theorem State.afterAttempts_lastSync (c : Config) (v : Byte) (k : Nat) (s : State) :
    (s.afterAttempts c v k).lastSync = s.lastSync := rfl
@[simp] theorem State.afterAttempts_fault (c : Config) (v : Byte) (k : Nat) (s : State) :
    (s.afterAttempts c v k).fault = s.fault := rfl
@[simp] theorem State.afterAttempts_history (c : Config) (v : Byte) (k : Nat) (s : State) :
    (s.afterAttempts c v k).history = s.history ++ nonceEvents c v s 0 k := rfl
@[simp] theorem State.afterAttempts_inbox (c : Config) (v : Byte) (k : Nat) (s : State) :
    (s.afterAttempts c v k).inbox = s.inbox := rfl
@[simp] theorem State.afterAttempts_regAnswers (c : Config) (v : Byte) (k : Nat) (s : State) :
    (s.afterAttempts c v k).regAnswers = s.regAnswers.drop k := rfl
@[simp] theorem State.afterAttempts_packets (c : Config) (v : Byte) (k : Nat) (s : State) :
    (s.afterAttempts c v k).packets = s.packets := rfl
@[simp] theorem State.afterAttempts_regReads (c : Config) (v : Byte) (k : Nat) (s : State) :
    (s.afterAttempts c v k).regReads = s.regReads + k := rfl
@[simp] theorem State.afterAttempts_fifoReads (c : Config) (v : Byte) (k : Nat) (s : State) :
    (s.afterAttempts c v k).fifoReads = s.fifoReads := rfl

@[simp] theorem State.afterTable_linkState (c : Config) (s : State) :
    (s.afterTable c).linkState = s.linkState := rfl
@[simp] theorem State.afterTable_mode (c : Config) (s : State) :
    (s.afterTable c).mode = some .sleep := rfl
@[simp] theorem State.afterTable_nodeId (c : Config) (s : State) :
    (s.afterTable c).nodeId = s.nodeId := rfl
@[simp] theorem State.afterTable_groupParity (c : Config) (s : State) :
    (s.afterTable c).groupParity = s.groupParity := rfl
@[simp] theorem State.afterTable_currentFrequency (c : Config) (s : State) :
    (s.afterTable c).currentFrequency = s.currentFrequency := rfl
@[simp] theorem State.afterTable_txPowerDbm (c : Config) (s : State) :
    (s.afterTable c).txPowerDbm = s.txPowerDbm := rfl
@[simp] theorem State.afterTable_rssiRaw (c : Config) (s : State) :
    (s.afterTable c).rssiRaw = s.rssiRaw := rfl
@[simp] theorem State.afterTable_lnaGainDb (c : Config) (s : State) :
    (s.afterTable c).lnaGainDb = s.lnaGainDb := rfl
@[simp] theorem State.afterTable_frequencyErrorHz (c : Config) (s : State) :
    (s.afterTable c).frequencyErrorHz = s.frequencyErrorHz := rfl
@[simp] theorem State.afterTable_snrDb (c : Config) (s : State) :
    (s.afterTable c).snrDb = s.snrDb := rfl
@[simp] theorem State.afterTable_marginDb (c : Config) (s : State) :
    (s.afterTable c).marginDb = s.marginDb := rfl
@[simp] theorem State.afterTable_lastSync (c : Config) (s : State) :
    (s.afterTable c).lastSync = s.lastSync := rfl
@[simp] theorem State.afterTable_fault (c : Config) (s : State) :
    (s.afterTable c).fault = s.fault := rfl
@[simp] theorem State.afterTable_history (c : Config) (s : State) :
    (s.afterTable c).history = s.history ++
      (c.configTable.map fun w => .transaction (.regWrite w.1 w.2)) ++ [.transaction (.regWrite (c.regAddr .opMode) (opModeByte c .sleep))] := rfl
@[simp] theorem State.afterTable_inbox (c : Config) (s : State) :
    (s.afterTable c).inbox = s.inbox := rfl
@[simp] theorem State.afterTable_regAnswers (c : Config) (s : State) :
    (s.afterTable c).regAnswers = s.regAnswers := rfl
@[simp] theorem State.afterTable_packets (c : Config) (s : State) :
    (s.afterTable c).packets = s.packets := rfl
@[simp] theorem State.afterTable_regReads (c : Config) (s : State) :
    (s.afterTable c).regReads = s.regReads := rfl
@[simp] theorem State.afterTable_fifoReads (c : Config) (s : State) :
    (s.afterTable c).fifoReads = s.fifoReads := rfl

@[simp] theorem State.linkUp_linkState (c : Config) (group : Byte) (s : State) :
    (s.linkUp c group).linkState = .ready := rfl
@[simp] theorem State.linkUp_mode (c : Config) (group : Byte) (s : State) :
    (s.linkUp c group).mode = s.mode := rfl
@[simp] theorem State.linkUp_nodeId (c : Config) (group : Byte) (s : State) :
    (s.linkUp c group).nodeId = s.nodeId := rfl
@[simp] theorem State.linkUp_groupParity (c : Config) (group : Byte) (s : State) :
    (s.linkUp c group).groupParity = s.groupParity := rfl
@[simp] theorem State.linkUp_currentFrequency (c : Config) (group : Byte) (s : State) :
    (s.linkUp c group).currentFrequency = s.currentFrequency := rfl
@[simp] theorem State.linkUp_txPowerDbm (c : Config) (group : Byte) (s : State) :
    (s.linkUp c group).txPowerDbm = some (txPowerInitDbm c) := rfl
@[simp] theorem State.linkUp_rssiRaw (c : Config) (group : Byte) (s : State) :
    (s.linkUp c group).rssiRaw = none := rfl
@[simp] theorem State.linkUp_lnaGainDb (c : Config) (group : Byte) (s : State) :
    (s.linkUp c group).lnaGainDb = none := rfl
@[simp] theorem State.linkUp_frequencyErrorHz (c : Config) (group : Byte) (s : State) :
    (s.linkUp c group).frequencyErrorHz = none := rfl
@[simp] theorem State.linkUp_snrDb (c : Config) (group : Byte) (s : State) :
    (s.linkUp c group).snrDb = none := rfl
@[simp] theorem State.linkUp_marginDb (c : Config) (group : Byte) (s : State) :
    (s.linkUp c group).marginDb = none := rfl
@[simp] theorem State.linkUp_lastSync (c : Config) (group : Byte) (s : State) :
    (s.linkUp c group).lastSync = some false := rfl
@[simp] theorem State.linkUp_fault (c : Config) (group : Byte) (s : State) :
    (s.linkUp c group).fault = s.fault := rfl
@[simp] theorem State.linkUp_history (c : Config) (group : Byte) (s : State) :
    (s.linkUp c group).history = s.history ++ [.transaction (.regWrite (c.regAddr c.syncGroupReg) group)] := rfl
@[simp] theorem State.linkUp_inbox (c : Config) (group : Byte) (s : State) :
    (s.linkUp c group).inbox = s.inbox := rfl
@[simp] theorem State.linkUp_regAnswers (c : Config) (group : Byte) (s : State) :
    (s.linkUp c group).regAnswers = s.regAnswers := rfl
@[simp] theorem State.linkUp_packets (c : Config) (group : Byte) (s : State) :
    (s.linkUp c group).packets = s.packets := rfl
@[simp] theorem State.linkUp_regReads (c : Config) (group : Byte) (s : State) :
    (s.linkUp c group).regReads = s.regReads := rfl
@[simp] theorem State.linkUp_fifoReads (c : Config) (group : Byte) (s : State) :
    (s.linkUp c group).fifoReads = s.fifoReads := rfl

@[simp] theorem State.afterSyncCheck_linkState (c : Config) (last : Bool) (s : State) :
    (s.afterSyncCheck c last).linkState = s.linkState := by
  unfold State.afterSyncCheck; split <;> rfl
@[simp] theorem State.afterSyncCheck_mode (c : Config) (last : Bool) (s : State) :
    (s.afterSyncCheck c last).mode = s.mode := by
  unfold State.afterSyncCheck; split <;> rfl
@[simp] theorem State.afterSyncCheck_nodeId (c : Config) (last : Bool) (s : State) :
    (s.afterSyncCheck c last).nodeId = s.nodeId := by
  unfold State.afterSyncCheck; split <;> rfl
@[simp] theorem State.afterSyncCheck_groupParity (c : Config) (last : Bool) (s : State) :
    (s.afterSyncCheck c last).groupParity = s.groupParity := by
  unfold State.afterSyncCheck; split <;> rfl
@[simp] theorem State.afterSyncCheck_currentFrequency (c : Config) (last : Bool) (s : State) :
    (s.afterSyncCheck c last).currentFrequency = s.currentFrequency := by
  unfold State.afterSyncCheck; split <;> rfl
@[simp] theorem State.afterSyncCheck_txPowerDbm (c : Config) (last : Bool) (s : State) :
    (s.afterSyncCheck c last).txPowerDbm = s.txPowerDbm := by
  unfold State.afterSyncCheck; split <;> rfl
@[simp] theorem State.afterSyncCheck_snrDb (c : Config) (last : Bool) (s : State) :
    (s.afterSyncCheck c last).snrDb = s.snrDb := by
  unfold State.afterSyncCheck; split <;> rfl
@[simp] theorem State.afterSyncCheck_marginDb (c : Config) (last : Bool) (s : State) :
    (s.afterSyncCheck c last).marginDb = s.marginDb := by
  unfold State.afterSyncCheck; split <;> rfl
@[simp] theorem State.afterSyncCheck_fault (c : Config) (last : Bool) (s : State) :
    (s.afterSyncCheck c last).fault = s.fault := by
  unfold State.afterSyncCheck; split <;> rfl
@[simp] theorem State.afterSyncCheck_inbox (c : Config) (last : Bool) (s : State) :
    (s.afterSyncCheck c last).inbox = s.inbox := by
  unfold State.afterSyncCheck; split <;> rfl
@[simp] theorem State.afterSyncCheck_packets (c : Config) (last : Bool) (s : State) :
    (s.afterSyncCheck c last).packets = s.packets := by
  unfold State.afterSyncCheck; split <;> rfl
@[simp] theorem State.afterSyncCheck_fifoReads (c : Config) (last : Bool) (s : State) :
    (s.afterSyncCheck c last).fifoReads = s.fifoReads := by
  unfold State.afterSyncCheck; split <;> rfl

end Sys2Proof.Machine
end

