-- ==== Sys2Proof/Laws/Run.lean ====
section
/-! SUPPORT. How a command's sequence runs, and one spec lemma per shared operation: the outcome it has, as one of the
written-out states of Safety.lean. -/

namespace Sys2Proof.Machine

/-! ## Sequencing -/

@[simp] theorem bind_apply {α β : Type} (x : Cmd α) (f : α → Cmd β) (s : State) :
    (x >>= f) s = match x s with
      | .ok a t => f a t
      | .error e t => .error e t := by
  cases h : x s <;> simp [bind, EStateM.bind, h]

@[simp] theorem pure_apply {α : Type} (a : α) (s : State) : (pure a : Cmd α) s = .ok a s := rfl

@[simp] theorem map_apply {α β : Type} (f : α → β) (x : Cmd α) (s : State) :
    (f <$> x) s = match x s with
      | .ok a t => .ok (f a) t
      | .error e t => .error e t := by
  cases h : x s <;> simp [Functor.map, EStateM.map, h]

@[simp] theorem ite_apply_cmd {α : Type} (p : Prop) [Decidable p] (x y : Cmd α) (s : State) :
    (if p then x else y) s = if p then x s else y s := by split <;> rfl

@[simp] theorem update_apply (f : State → State) (s : State) : update f s = .ok () (f s) := rfl

@[simp] theorem raise_apply {α : Type} (f : Fault) (s : State) : (raise f : Cmd α) s = .error f (s.setFault f) := rfl

theorem demand_of_some {α : Type} {field : Field} {get : State → Option α} {s : State} {v : α} (h : get s = some v) :
    demand field get s = .ok v s := by simp [demand, h]

theorem demand_of_none {α : Type} {field : Field} {get : State → Option α} {s : State} (h : get s = none) :
    demand field get s = .error (.unwritten field) (s.setFault (.unwritten field)) := by simp [demand, h]

theorem checkReady_of_ready {s : State} (h : s.linkState = .ready) : checkReady s = .ok () s := by
  simp [checkReady, h]

theorem checkReady_of_not_ready {s : State} (h : s.linkState ≠ .ready) :
    checkReady s = .error .notReady (s.setFault .notReady) := by
  cases hl : s.linkState <;> simp_all [checkReady]

/-! ## A command's one step -/

theorem command_of_fault {i : Instr} {body : Cmd Result} {s : State} {f : Fault} (h : s.fault = some f) :
    command i body s = .fault f := by simp [command, h]

theorem command_of_ok {i : Instr} {body : Cmd Result} {s t : State} {r : Result} (h : s.fault = none)
    (hb : body s = .ok r t) : command i body s = .next (t.returning i r) := by
  simp [command, h, hb, settle, State.log, State.returning]

theorem command_of_error {i : Instr} {body : Cmd Result} {s t : State} {f : Fault} (h : s.fault = none)
    (hb : body s = .error f t) : command i body s = .next t := by
  simp [command, h, hb, settle]

/-- What a command's step can do: it stops on a recorded fault, or its body returned, or its body raised a fault. -/
theorem command_next {i : Instr} {body : Cmd Result} {s t : State} (h : command i body s = .next t) :
    s.fault = none ∧
      ((∃ r u, body s = .ok r u ∧ t = u.returning i r) ∨ ∃ f, body s = .error f t) := by
  unfold command at h
  split at h
  · cases h
  · rename_i hf
    refine ⟨hf, ?_⟩
    cases hb : body s with
    | ok r u =>
      simp only [hb, settle, Host.Outcome.next.injEq] at h
      exact .inl ⟨r, u, rfl, h.symm⟩
    | error f u =>
      simp only [hb, settle, Host.Outcome.next.injEq] at h
      exact .inr ⟨f, by rw [h]⟩

/-! ## The radio's answers -/

@[simp] theorem answer_tookAnswer (s : State) (k : Nat) : s.tookAnswer.answer k = s.answer (k + 1) := by
  unfold State.answer State.tookAnswer
  cases s.regAnswers with
  | nil => simp [Nat.add_comm, Nat.add_left_comm]
  | cons b bs => simp [Nat.add_comm, Nat.add_left_comm]

@[simp] theorem answer_log (es : List Event) (s : State) (k : Nat) : (s.log es).answer k = s.answer k := rfl

@[simp] theorem answer_setIdentity (id : BitVec 6) (p : BitVec 2) (s : State) (k : Nat) :
    (s.setIdentity id p).answer k = s.answer k := rfl

@[simp] theorem answer_tookPacket (s : State) (k : Nat) : s.tookPacket.answer k = s.answer k := rfl

@[simp] theorem packetCount_tookAnswer (s : State) : s.tookAnswer.packetCount = s.packetCount := rfl

@[simp] theorem packetCount_log (es : List Event) (s : State) : (s.log es).packetCount = s.packetCount := rfl

@[simp] theorem packetData_tookAnswer (s : State) (n : Nat) : s.tookAnswer.packetData n = s.packetData n := rfl

@[simp] theorem packetData_log (es : List Event) (s : State) (n : Nat) : (s.log es).packetData n = s.packetData n := rfl

/-- FifoRead(n) delivers `min(count, n)` bytes (R46). -/
theorem packetData_length (s : State) (n : Nat) : (s.packetData n).length = min s.packetCount.toNat n := by
  simp [State.packetData]

/-! ## The transport primitives -/

@[simp] theorem regRead_apply (c : Config) (r : Reg) (s : State) :
    regRead c r s = .ok (s.answer 0) (s.afterRead c r) := rfl

@[simp] theorem regWrite_apply (c : Config) (r : Reg) (v : Byte) (s : State) :
    regWrite c r v s = .ok () (s.afterWrite c r v) := rfl

@[simp] theorem answer_afterRead (c : Config) (r : Reg) (s : State) (k : Nat) :
    (s.afterRead c r).answer k = s.answer (k + 1) := answer_tookAnswer s k

@[simp] theorem answer_afterWrite (c : Config) (r : Reg) (v : Byte) (s : State) (k : Nat) :
    (s.afterWrite c r v).answer k = s.answer k := rfl

/-! ## Mode Controller -/

@[simp] theorem setMode_apply (c : Config) (m : Mode) (s : State) : setMode c m s = .ok () (s.afterSetMode c m) := rfl

/-! ## Packet Codec -/

theorem encodeFrame_of_identity {s : State} {p : BitVec 2} {me : BitVec 6} (hp : s.groupParity = some p)
    (hm : s.nodeId = some me) (flags : BitVec 2) (destId : BitVec 6) (payload : List Byte) :
    encodeFrame flags destId payload s = .ok (frameBytes p me flags destId payload) s := by
  simp [encodeFrame, demand, hp, hm]

/-- The receive filter's answer where the identity is written (R113). -/
theorem acceptDest_of_identity {s : State} {p : BitVec 2} {me : BitVec 6} (hp : s.groupParity = some p)
    (hm : s.nodeId = some me) (dest : Byte) :
    acceptDest dest s =
      .ok (topTwo dest == p && (lowSix dest == me || lowSix dest == broadcastId || me == catchallId)) s := by
  by_cases h : topTwo dest = p <;> simp [acceptDest, demand, hp, hm, h]

theorem catchallBypass_of_identity {s : State} {me : BitVec 6} (hm : s.nodeId = some me) (c : Config) :
    catchallBypass c s = .ok (c.catchallIgnoresParity && me == catchallId) s := by
  cases h : c.catchallIgnoresParity <;> simp [catchallBypass, demand, hm, h]

theorem acceptData_of_identity {s : State} {p : BitVec 2} {me : BitVec 6} (hp : s.groupParity = some p)
    (hm : s.nodeId = some me) (c : Config) (count dest : Byte) (rest : List Byte) :
    acceptData c count (dest :: rest) s =
      .ok (lengthInRange count &&
        ((c.catchallIgnoresParity && me == catchallId) ||
          (topTwo dest == p && (lowSix dest == me || lowSix dest == broadcastId || me == catchallId)))) s := by
  cases hl : lengthInRange count
  · simp [acceptData, hl]
  · cases hb : (c.catchallIgnoresParity && me == catchallId) <;>
      simp [acceptData, hl, catchallBypass_of_identity hm, acceptDest_of_identity hp hm, hb]

theorem acceptAck_of_identity {s : State} {p : BitVec 2} {me : BitVec 6} (hp : s.groupParity = some p)
    (hm : s.nodeId = some me) (c : Config) (count dest src : Byte) (rest : List Byte) :
    acceptAck c count (dest :: src :: rest) s =
      .ok (lengthInRange count && topTwo dest == p && lowSix dest == me &&
        !(c.ackFlagCheck && !bitSet src 6)) s := by
  by_cases hl : lengthInRange count
  · by_cases h1 : topTwo dest = p
    · by_cases h2 : lowSix dest = me <;> simp [acceptAck, acceptAckHeader, hl, demand, hp, hm, h1, h2]
    · simp [acceptAck, acceptAckHeader, hl, demand, hp, h1]
  · simp [acceptAck, hl]

/-- Neither filter changes the state where the identity is written. -/
theorem acceptData_state {s : State} {p : BitVec 2} {me : BitVec 6} (hp : s.groupParity = some p)
    (hm : s.nodeId = some me) (c : Config) (count : Byte) (data : List Byte) :
    ∃ b, acceptData c count data s = .ok b s := by
  cases data with
  | nil => cases h : lengthInRange count <;> exact ⟨false, by simp [acceptData, h]⟩
  | cons dest rest => exact ⟨_, acceptData_of_identity hp hm c count dest rest⟩

theorem acceptAck_state {s : State} {p : BitVec 2} {me : BitVec 6} (hp : s.groupParity = some p)
    (hm : s.nodeId = some me) (c : Config) (count : Byte) (data : List Byte) :
    ∃ b, acceptAck c count data s = .ok b s := by
  match data with
  | [] => cases h : lengthInRange count <;> exact ⟨false, by simp [acceptAck, h]⟩
  | [d] => cases h : lengthInRange count <;> exact ⟨false, by simp [acceptAck, h]⟩
  | dest :: src :: rest => exact ⟨_, acceptAck_of_identity hp hm c count dest src rest⟩

@[simp] theorem programFrequency_apply (c : Config) (hz : Nat) (s : State) :
    programFrequency c hz s = .ok () (s.afterFrequency c hz) := by
  simp [programFrequency, State.afterWrite, State.afterFrequency, State.setFrequency]

/-- Everything setFrequency can do (R116). -/
theorem setFrequency_apply (c : Config) (f : Nat) (s : State) :
    setFrequency c f s =
      if f = 0 then .error .freqZeroHang (s.setFault .freqZeroHang)
      else if freqCeilingHz ≤ scaledHz f then
        .error (.freqOutOfRange (scaledHz f)) (s.setFault (.freqOutOfRange (scaledHz f)))
      else .ok () (s.afterFrequency c (scaledHz f)) := by
  by_cases hf : f = 0
  · simp [setFrequency, scaleFreq, hf]
  · by_cases hc : freqCeilingHz ≤ scaledHz f <;> simp [setFrequency, scaleFreq, hf, hc]

/-! ## Link Quality Estimator -/

theorem captureEdge_apply (c : Config) (s : State) :
    captureEdge c s = .ok ()
      { s with
        rssiRaw := some (s.answer 0)
        lnaGainDb := some (lnaGain c (s.answer 1))
        frequencyErrorHz := some (afcToHz c (s.answer 2 ++ s.answer 3))
        history := s.history ++
          [.transaction (.regRead (c.regAddr .rssiValue) (s.answer 0)),
           .transaction (.regRead (c.regAddr .lna) (s.answer 1)),
           .transaction (.regRead (c.regAddr .afcMsb) (s.answer 2)),
           .transaction (.regRead (c.regAddr .afcLsb) (s.answer 3))]
        regAnswers := s.regAnswers.drop 4
        regReads := s.regReads + 4 } := by
  simp only [captureEdge, bind_apply, regRead_apply, answer_afterRead, update_apply]
  congr 1
  ext1 <;> simp [← List.drop_one]

/-- syncCheck answers the flags byte and changes only the metrics, lastSync, H and the radio's answers (R130). -/
theorem syncCheck_apply {s : State} {last : Bool} (h : s.lastSync = some last) (c : Config) :
    syncCheck c s = .ok (s.answer 0) (s.afterSyncCheck c last) := by
  have hd : demand .lastSync State.lastSync (s.afterRead c .irqFlags1) = .ok last (s.afterRead c .irqFlags1) :=
    demand_of_some h
  unfold syncCheck State.afterSyncCheck State.edgeSeen
  cases hs : syncMatch c (s.answer 0) <;> cases last <;>
    simp [hs, syncEdge, hd, captureEdge_apply] <;>
    simp [State.afterRead, State.setLastSync]

@[simp] theorem fifoRead_apply (c : Config) (n : Nat) (s : State) :
    fifoRead c n s = .ok (s.packetCount, s.packetData n) (s.afterFifoRead c n) := rfl

@[simp] theorem fifoWrite_apply (c : Config) (bytes : List Byte) (s : State) :
    fifoWrite c bytes s = .ok () (s.afterFifoWrite c bytes) := rfl

@[simp] theorem answer_afterFifoRead (c : Config) (n : Nat) (s : State) (k : Nat) :
    (s.afterFifoRead c n).answer k = s.answer k := rfl

@[simp] theorem packetCount_afterRead (c : Config) (r : Reg) (s : State) : (s.afterRead c r).packetCount = s.packetCount := rfl

@[simp] theorem packetData_afterRead (c : Config) (r : Reg) (s : State) (n : Nat) :
    (s.afterRead c r).packetData n = s.packetData n := rfl

/-- The three transactions of readPayload, as one state (R134). -/
theorem payload_reads_state (c : Config) (n : Nat) (s : State) :
    ((s.afterRead c .rssiValue).afterFifoRead c n).afterRead c .rssiValue = s.afterPayloadReads c n := by
  ext1 <;> simp [← List.drop_one]

/-- readPayload where `S.rssiRaw` is written (R134). -/
theorem readPayload_of_some {s : State} {r : Byte} (h : s.rssiRaw = some r) (c : Config) (n : Nat) :
    readPayload c n s = .ok (s.packetCount, s.packetData n) (s.afterPayload c n r) := by
  have hd : demand .rssiRaw State.rssiRaw (s.afterPayloadReads c n) = .ok r (s.afterPayloadReads c n) := demand_of_some h
  simp [readPayload, payload_reads_state, hd]
  rfl

/-- readPayload where no sync edge was latched: the fault comes after the three transactions (R134). -/
theorem readPayload_of_none {s : State} (h : s.rssiRaw = none) (c : Config) (n : Nat) :
    readPayload c n s = .error (.unwritten .rssiRaw) ((s.afterPayloadReads c n).faulting (.unwritten .rssiRaw)) := by
  have hd : demand .rssiRaw State.rssiRaw (s.afterPayloadReads c n) =
      .error (.unwritten .rssiRaw) ((s.afterPayloadReads c n).setFault (.unwritten .rssiRaw)) := demand_of_none h
  simp [readPayload, payload_reads_state, hd]
  rfl

/-! ## Adaptation Engine -/

@[simp] theorem txPower_apply (c : Config) (p : Int) (s : State) : txPower c p s = .ok () (s.afterTxPower c p) := rfl

/-- The power loop's new power from `p`, before the clamp; none where nothing is done (R152). -/
theorem adjustPow_apply {s : State} {p : Int} (h : s.txPowerDbm = some p) (c : Config) (margin target : Int) :
    adjustPow c margin target s =
      if margin - target > 4 then .ok () (s.afterTxPower c (p - (margin - target + 2) / 4))
      else if margin - target > 0 then .ok () (s.afterTxPower c (p - 1))
      else if margin - target < 0 then .ok () (s.afterTxPower c (p + (target - margin)))
      else .ok () s := by
  simp [adjustPow, demand_of_some h, powBigStepThresholdDb]

/-- Everything adjustFreq can do where the error and the frequency are written (R153). -/
theorem adjustFreq_apply {s : State} {fe : Int} {cur : Hz32} (hf : s.frequencyErrorHz = some fe)
    (hc : s.currentFrequency = some cur) (c : Config) :
    adjustFreq c s =
      if (cur.toNat : Int) + freqCorrection c fe < 1 ∨ (2 ^ 32 - 1 : Int) < (cur.toNat : Int) + freqCorrection c fe then
        .error (.freqOutOfRange ((cur.toNat : Int) + freqCorrection c fe))
          (s.setFault (.freqOutOfRange ((cur.toNat : Int) + freqCorrection c fe)))
      else setFrequency c ((cur.toNat : Int) + freqCorrection c fe).toNat s := by
  simp [adjustFreq, demand_of_some hf, demand_of_some hc]

/-- adjustFreq where the correction fits (R153). -/
theorem adjustFreq_of_fits {s : State} {fe : Int} {cur : Hz32} {c : Config} (hf : s.frequencyErrorHz = some fe)
    (hc : s.currentFrequency = some cur) (h : correctionFits c fe cur) :
    adjustFreq c s = .ok () (s.afterAdjustFreq c fe cur) := by
  obtain ⟨lo, hi, scaled⟩ := h
  simp only [correctedFrequency] at lo hi scaled
  rw [adjustFreq_apply hf hc, if_neg (by omega), setFrequency_apply, if_neg (by omega), if_neg (by omega)]
  rfl

/-- adjustFreq where the correction does not fit: one fault, with nothing written (R153, R209). -/
theorem adjustFreq_of_not_fits {s : State} {fe : Int} {cur : Hz32} {c : Config} (hf : s.frequencyErrorHz = some fe)
    (hc : s.currentFrequency = some cur) (h : ¬ correctionFits c fe cur) :
    adjustFreq c s = .error (.freqOutOfRange (refusedFrequency c fe cur))
      (s.faulting (.freqOutOfRange (refusedFrequency c fe cur))) := by
  simp only [correctionFits, correctedFrequency] at h
  rw [adjustFreq_apply hf hc]
  by_cases out : (cur.toNat : Int) + freqCorrection c fe < 1 ∨ (2 ^ 32 - 1 : Int) < (cur.toNat : Int) + freqCorrection c fe
  · rw [if_pos out, show refusedFrequency c fe cur = _ from if_pos out]
    rfl
  · rw [if_neg out, show refusedFrequency c fe cur = _ from if_neg out, setFrequency_apply, if_neg (by omega),
      if_pos (by omega)]
    rfl

theorem adjustFreq_of_none {s : State} (hf : s.frequencyErrorHz = none) (c : Config) :
    adjustFreq c s = .error (.unwritten .frequencyErrorHz) (s.setFault (.unwritten .frequencyErrorHz)) := by
  simp [adjustFreq, demand_of_none hf]

/-! ## Link Protocol -/

theorem checkLen_of_le {op len : Byte} {s : State} (h : 2 ≤ len.toNat) : checkLen op len s = .ok () s := by
  have : ¬ len.toNat < headerLen := by simp only [headerLen]; omega
  simp [checkLen, this]

theorem checkLen_of_lt {op len : Byte} {s : State} (h : len.toNat < 2) :
    checkLen op len s = .error (.badArgument op) (s.setFault (.badArgument op)) := by
  have : len.toNat < headerLen := by simp only [headerLen]; omega
  simp [checkLen, this]

/-- One failed or passed attempt moves the presence check on by one answer. -/
theorem presence_succ (c : Config) (v : Byte) (k : Nat) (s : State) :
    presence c v (k + 1) s =
      if s.answer 0 = v then .ok true ((s.afterWrite c c.nonceReg v).afterRead c c.nonceReg)
      else presence c v k ((s.afterWrite c c.nonceReg v).afterRead c c.nonceReg) := by
  by_cases h : s.answer 0 = v <;> simp [presence, h]

/-- No power of `TX_RANGE(PA_VARIANT)` has more writes than the bound of R179 counts (log entry 23). -/
theorem length_paLevelWrites_le (c : Config) {p : Int} (lo : txLo c ≤ p) (hi : p ≤ txHi c) :
    (c.paLevelWrites p).length ≤ maxPaWrites c := by
  have le_foldr : ∀ (l : List Nat) (n : Nat), n ∈ l → n ≤ l.foldr max 0 := fun l n h => by
    induction l with
    | nil => cases h
    | cons a l ih => rcases List.mem_cons.1 h with rfl | h <;> simp [*]
  refine le_foldr _ _ (List.mem_map.2 ⟨(p - txLo c).toNat, List.mem_range.2 (by omega), ?_⟩)
  rw [show txLo c + ((p - txLo c).toNat : Int) = p by omega]

end Sys2Proof.Machine
end

