-- ==== Sys2Proof/Laws/Ack.lean ====
section
/-! SUPPORT. The body READACK and GETACK share, on the packet the radio holds: one lemma per way it can end (R175). -/

namespace Sys2Proof.Machine

/-! ## The packet of a state -/

/-- The bytes a FifoRead delivers are the packet's, in order (R46). -/
theorem packetData_getElem? (s : State) (n k : Nat) (h : k < min s.packetCount.toNat n) :
    (s.packetData n)[k]? = some (s.packetByte k) := by
  simp only [State.packetData, List.getElem?_map, List.getElem?_range h, Option.map_some]

/-- A buffer of 2 or more takes the two header bytes of a packet that has them (R46). -/
theorem packetData_two {s : State} {n : Nat} (hc : 2 ≤ s.packetCount.toNat) (hn : 2 ≤ n) :
    ∃ rest, s.packetData n = s.packetByte 0 :: s.packetByte 1 :: rest := by
  have h0 := packetData_getElem? s n 0 (by omega)
  have h1 := packetData_getElem? s n 1 (by omega)
  match h : s.packetData n with
  | [] => simp [h] at h0
  | [_] => simp [h] at h1
  | a :: b :: rest =>
    simp only [h, List.getElem?_cons_zero, List.getElem?_cons_succ, Option.some.injEq] at h0 h1
    exact ⟨rest, by rw [h0, h1]⟩

/-- The ack filter on the packet of `s` (R114). -/
theorem acceptAck_packet {t : State} {p : BitVec 2} {me : BitVec 6} (hp : t.groupParity = some p)
    (hm : t.nodeId = some me) (c : Config) (s : State) {n : Nat} (hn : 2 ≤ n) :
    ∃ ok, acceptAck c s.packetCount (s.packetData n) t = .ok ok t ∧
      (ok = true ↔ ackAccepted c p me s.packetCount (s.packetByte 0) (s.packetByte 1)) := by
  by_cases hl : lengthInRange s.packetCount = true
  · obtain ⟨rest, hr⟩ := packetData_two (s := s) (n := n) (by simp [lengthInRange] at hl; omega) hn
    refine ⟨_, by rw [hr, acceptAck_of_identity hp hm], ?_⟩
    cases hf : c.ackFlagCheck <;> simp [ackAccepted, lengthInRange, topTwo, lowSix, bitSet, hf, and_assoc]
  · exact ⟨false, by simp [acceptAck, hl], by simp, fun h => absurd (by simp [lengthInRange, h.1, h.2.1]) hl⟩

/-- A trailer delivered whole is the last two bytes of the packet of `s` (R118). -/
theorem infoTrailer_packet {s : State} {len : Byte} (h : trailerDelivered s.packetCount len) :
    infoTrailer s.packetCount (s.packetData len.toNat) len =
      some (s.packetByte (s.packetCount.toNat - 2), s.packetByte (s.packetCount.toNat - 1)) := by
  obtain ⟨h1, h2⟩ := h
  rw [infoTrailer, if_pos ⟨h1, h2⟩, packetData_getElem? _ _ _ (by omega), packetData_getElem? _ _ _ (by omega)]

theorem infoTrailer_of_not_delivered {s : State} {len : Byte} {data : List Byte} (h : ¬ trailerDelivered s.packetCount len) :
    infoTrailer s.packetCount data len = none := if_neg h

/-! ## How readAckBody ends -/

/-- No RSSI was latched: the fault comes after the three payload transactions (R134, R175). -/
theorem readAckBody_of_no_rssi {s : State} {len : Byte} (h : s.rssiRaw = none) (c : Config) :
    readAckBody c len s =
      .error (.unwritten .rssiRaw) ((s.afterPayloadReads c len.toNat).faulting (.unwritten .rssiRaw)) := by
  simp [readAckBody, readPayload_of_none h]

section

variable {s : State} {len r : Byte} {p : BitVec 2} {me : BitVec 6} {c : Config} (hl : 2 ≤ len.toNat)
  (hr : s.rssiRaw = some r) (hp : s.groupParity = some p) (hm : s.nodeId = some me)

include hl hr hp hm

/-- A rejected ack answers 0 (R175). -/
theorem readAckBody_of_rejected (h : ¬ ackAccepted c p me s.packetCount (s.packetByte 0) (s.packetByte 1)) :
    readAckBody c len s = .ok (.poll 0 (some (s.packetData len.toNat))) (s.afterPayload c len.toNat r) := by
  obtain ⟨ok, ha, hok⟩ := acceptAck_packet (t := s.afterPayload c len.toNat r) hp hm c s hl
  have hf : ok = false := by simpa [← hok] using h
  simp [readAckBody, readPayload_of_some hr, ha, hf]

/-- An accepted ack answers its length byte after what its trailer lets happen (R175, R176). -/
theorem readAckBody_of_accepted (h : ackAccepted c p me s.packetCount (s.packetByte 0) (s.packetByte 1)) :
    readAckBody c len s =
      match adaptIfTrailer c (infoTrailer s.packetCount (s.packetData len.toNat) len) (s.afterPayload c len.toNat r) with
      | .ok _ t => .ok (.poll s.packetCount.toNat (some (s.packetData len.toNat))) t
      | .error f t => .error f t := by
  obtain ⟨ok, ha, hok⟩ := acceptAck_packet (t := s.afterPayload c len.toNat r) hp hm c s hl
  simp only [readAckBody, bind_apply, readPayload_of_some hr, ha, hok.2 h, if_true]
  cases adaptIfTrailer c _ _ <;> rfl

end

/-- Both loops, where the correction fits (R175, R176). -/
theorem adaptToTrailer_of_fits {s : State} {c : Config} {fe pow : Int} {cur : Hz32} (hf : s.frequencyErrorHz = some fe)
    (hc : s.currentFrequency = some cur) (hp : s.txPowerDbm = some pow) (h : correctionFits c fe cur) (t0 : Byte) :
    adaptToTrailer c t0 s = .ok () (s.afterAdaptation c t0 fe cur pow) := by
  have hq : (s.afterAdjustFreq c fe cur).txPowerDbm = some pow := hp
  cases hpc : c.powerControlEnabled
  · simp [adaptToTrailer, adjustFreq_of_fits hf hc h, State.afterAdaptation, hpc]
  · simp only [adaptToTrailer, bind_apply, adjustFreq_of_fits hf hc h, State.afterAdaptation, hpc, if_true,
      adjustPow_apply hq, State.afterAdjustPow, peerMargin, sext8]
    split_ifs <;> rfl

/-- A frequency loop that faults ends the trailer step with its fault (R153, R175). -/
theorem adaptToTrailer_of_error {s t : State} {c : Config} {f : Fault} (h : adjustFreq c s = .error f t) (t0 : Byte) :
    adaptToTrailer c t0 s = .error f t := by simp [adaptToTrailer, h]

end Sys2Proof.Machine
end

