-- ==== Sys2Proof/Laws/Parametric.lean ====
section
/-! SUPPORT. `exec` and `step` are the parametric machine at `Config.chip`. -/

namespace Sys2Proof.Machine

/-- Every meaning is its command's sequence over the machine's configuration, as one atomic step. -/
theorem exec_eq_command (i : Instr) (s : State) : exec i s = command i (bodyOf Config.chip i) s := by
  cases i <;> rfl

theorem exec_eq_execWith (i : Instr) (s : State) : exec i s = execWith Config.chip i s := exec_eq_command i s

theorem step_eq_stepWith (s : State) : step s = stepWith Config.chip s := by
  unfold step stepWith
  cases fetch s with
  | idle => rfl
  | illegal op t => rfl
  | command i t => exact exec_eq_execWith i t

end Sys2Proof.Machine
end

