-- ==== Sys2Proof/Laws/Keeps.lean ====
section
/-! SUPPORT. A property a command keeps: the rules for carrying a property of the state through a sequence, whether it
returns or faults, so that a whole-machine claim is proved piece by piece. -/

namespace Sys2Proof.Machine

/-- The state a piece of a command leaves, whether it returned or raised a fault (R201). -/
def endState {α : Type} : EStateM.Result Fault State α → State
  | .ok _ t => t
  | .error _ t => t

@[simp] theorem endState_ok {α : Type} (a : α) (t : State) : endState (.ok a t : EStateM.Result Fault State α) = t := rfl

@[simp] theorem endState_error {α : Type} (e : Fault) (t : State) :
    endState (.error e t : EStateM.Result Fault State α) = t := rfl

/-- From every state with `P` the piece ends in a state with `P`. -/
def Keeps (P : State → Prop) {α : Type} (x : Cmd α) : Prop := ∀ s, P s → P (endState (x s))

theorem Keeps.pure {P : State → Prop} {α : Type} (a : α) : Keeps P (Pure.pure a : Cmd α) := fun _ h => h

theorem Keeps.bind {P : State → Prop} {α β : Type} {x : Cmd α} {f : α → Cmd β} (hx : Keeps P x)
    (hf : ∀ a, Keeps P (f a)) : Keeps P (x >>= f) := by
  intro s hs
  have h := hx s hs
  rw [bind_apply]
  cases hr : x s with
  | ok a t => rw [hr] at h; exact hf a t h
  | error e t => rw [hr] at h; exact h

theorem Keeps.ite {P : State → Prop} {α : Type} {p : Prop} [Decidable p] {x y : Cmd α} (hx : Keeps P x)
    (hy : Keeps P y) : Keeps P (if p then x else y) := by split <;> assumption

theorem Keeps.update {P : State → Prop} {f : State → State} (h : ∀ s, P s → P (f s)) : Keeps P (update f) := h

theorem Keeps.raise {P : State → Prop} {α : Type} {f : Fault} (h : ∀ s, P s → P (s.setFault f)) :
    Keeps P (raise f : Cmd α) := h

theorem Keeps.demand {P : State → Prop} {α : Type} {field : Field} {get : State → Option α}
    (h : ∀ f s, P s → P (s.setFault f)) : Keeps P (demand field get) := by
  intro s hs
  unfold Machine.demand
  cases get s with
  | some v => exact hs
  | none => exact h _ _ hs

theorem Keeps.checkReady {P : State → Prop} (h : ∀ f s, P s → P (s.setFault f)) : Keeps P checkReady := by
  intro s hs
  unfold Machine.checkReady
  cases s.linkState with
  | ready => exact hs
  | uninit => exact h _ _ hs
  | failed => exact h _ _ hs

/-- A property every piece of the body keeps, and that the entry of the result keeps, holds after the command. -/
theorem Keeps.command {P : State → Prop} {i : Instr} {body : Cmd Result} (hb : Keeps P body)
    (hr : ∀ r s, P s → P (s.returning i r)) {s t : State} (hs : P s) (h : command i body s = .next t) : P t := by
  obtain ⟨_, ⟨r, u, hu, rfl⟩ | ⟨f, hu⟩⟩ := command_next h
  · have := hb s hs
    rw [hu] at this
    exact hr r u this
  · have := hb s hs
    rw [hu] at this
    exact this

/-- The writes a property must survive to survive every command but the ones that write S itself: H, the radio's
answers and the fault record. -/
structure Transparent (P : State → Prop) : Prop where
  fault : ∀ f s, P s → P (s.setFault f)
  log : ∀ es s, P s → P (s.log es)
  answer : ∀ s, P s → P s.tookAnswer
  packet : ∀ s, P s → P s.tookPacket

theorem Keeps.regRead {P : State → Prop} (hP : Transparent P) (c : Config) (r : Reg) : Keeps P (regRead c r) :=
  fun s hs => hP.log _ _ (hP.answer s hs)

theorem Keeps.regWrite {P : State → Prop} (hP : Transparent P) (c : Config) (r : Reg) (v : Byte) :
    Keeps P (regWrite c r v) := fun s hs => hP.log _ s hs

theorem Keeps.regWrites {P : State → Prop} (hP : Transparent P) (c : Config) (ws : List (WriteTarget × Byte)) :
    Keeps P (regWrites c ws) := fun s hs => hP.log _ s hs

theorem Keeps.memWrites {P : State → Prop} (hP : Transparent P) (ws : List (Byte × Byte)) : Keeps P (memWrites ws) :=
  fun s hs => hP.log _ s hs

theorem Keeps.fifoWrite {P : State → Prop} (hP : Transparent P) (c : Config) (bytes : List Byte) :
    Keeps P (fifoWrite c bytes) := fun s hs => hP.log _ s hs

theorem Keeps.fifoRead {P : State → Prop} (hP : Transparent P) (c : Config) (n : Nat) : Keeps P (fifoRead c n) :=
  fun s hs => hP.log _ _ (hP.packet s hs)

end Sys2Proof.Machine
end

