-- ==== Sys2Proof/Laws/Bodies.lean ====
section
/-! SUPPORT. What each shared operation and each command keeps: a property that survives the writes an operation makes
survives the operation, whether it returns or faults. -/

namespace Sys2Proof.Machine

/-! ## What a property must survive -/

/-- The property survives a programmed frequency, which lies between the floor and the ceiling (R115, R116). -/
abbrev KeepsFrequency (P : State → Prop) : Prop :=
  ∀ hz : Nat, freqFloorHz ≤ hz → hz < freqCeilingHz → ∀ s, P s → P (s.setFrequency (BitVec.ofNat 32 hz))

/-- The property survives a recorded power, which lies in `TX_RANGE` (R151). -/
abbrev KeepsPower (P : State → Prop) (c : Config) : Prop :=
  ∀ p s, txLo c ≤ p → p ≤ txHi c → P s → P (s.setPower p)

/-- The property survives a sync-edge capture (R130). -/
abbrev KeepsSync (P : State → Prop) (c : Config) : Prop :=
  ∀ r g w s, P s → P (s.setSyncMetrics r (lnaGain c g) (afcToHz c w))

/-- The property survives a write of lastSync (R130). -/
abbrev KeepsLastSync (P : State → Prop) : Prop := ∀ b s, P s → P (s.setLastSync b)

/-- The property survives a payload-ready read (R134). -/
abbrev KeepsPayload (P : State → Prop) (c : Config) : Prop :=
  ∀ n1 n2 r s, s.rssiRaw = some r → P s → P (s.setPayloadMetrics (snrOf c n1 n2 r) (linkMargin (snrOf c n1 n2 r)))

/-- Every write a command other than INIT makes (R104, R105: none of them records Standby). -/
structure KeepsAll (P : State → Prop) (c : Config) : Prop where
  transparent : Transparent P
  mode : ∀ m, m ≠ .standby → ∀ s, P s → P (s.setMode m)
  frequency : KeepsFrequency P
  power : KeepsPower P c
  sync : KeepsSync P c
  lastSync : KeepsLastSync P
  payload : KeepsPayload P c

theorem txLo_le_txHi (c : Config) : txLo c ≤ txHi c := by
  unfold txLo txHi
  cases c.paVariant <;> simp

/-- The scaled frequency is at or above the floor (R115). -/
theorem freqFloorHz_le_scaledHz {f : Nat} (hf : f ≠ 0) : freqFloorHz ≤ scaledHz f := by
  have loop : ∀ n f : Nat, 0 < f → 100000000 ≤ f * 10 ^ n → 100000000 ≤ scaleUp n f := by
    intro n
    induction n with
    | zero => intro f _ h; simpa [scaleUp] using h
    | succ n ih =>
      intro f hf h
      by_cases hlt : f < freqFloorHz
      · simp only [scaleUp, hlt, if_true]
        exact ih _ (by omega) (by rw [Nat.pow_succ] at h; ring_nf at h ⊢; exact h)
      · simp only [scaleUp, hlt, if_false]
        simp only [freqFloorHz] at hlt
        omega
  exact loop 8 f (by omega) (by omega)

variable {P : State → Prop} {c : Config}

/-! ## Shared operations -/

theorem Keeps.setMode (hP : Transparent P) {m : Mode} (hm : ∀ s, P s → P (s.setMode m)) : Keeps P (setMode c m) :=
  (Keeps.regWrite hP _ _ _).bind fun _ => Keeps.update hm

theorem Keeps.checkLen (hP : Transparent P) (op len : Byte) : Keeps P (checkLen op len) :=
  Keeps.ite (Keeps.raise (hP.fault _)) (Keeps.pure _)

theorem Keeps.encodeFrame (hP : Transparent P) (flags : BitVec 2) (destId : BitVec 6) (payload : List Byte) :
    Keeps P (encodeFrame flags destId payload) :=
  (Keeps.demand hP.fault).bind fun _ => (Keeps.demand hP.fault).bind fun _ => Keeps.pure _

theorem Keeps.acceptData (hP : Transparent P) (count : Byte) (data : List Byte) : Keeps P (acceptData c count data) := by
  unfold Machine.acceptData
  refine Keeps.ite ?_ (Keeps.pure _)
  split
  · exact (Keeps.ite ((Keeps.demand hP.fault).bind fun _ => Keeps.pure _) (Keeps.pure _)).bind fun _ =>
      Keeps.ite (Keeps.pure _) ((Keeps.demand hP.fault).bind fun _ =>
        Keeps.ite ((Keeps.demand hP.fault).bind fun _ => Keeps.pure _) (Keeps.pure _))
  · exact Keeps.pure _

theorem Keeps.acceptAck (hP : Transparent P) (count : Byte) (data : List Byte) : Keeps P (acceptAck c count data) := by
  unfold Machine.acceptAck
  refine Keeps.ite ?_ (Keeps.pure _)
  split
  · exact (Keeps.demand hP.fault).bind fun _ =>
      Keeps.ite ((Keeps.demand hP.fault).bind fun _ => Keeps.ite (Keeps.pure _) (Keeps.pure _)) (Keeps.pure _)
  · exact Keeps.pure _

theorem Keeps.setFrequency (hP : Transparent P) (hf : KeepsFrequency P) (f : Nat) : Keeps P (setFrequency c f) := by
  intro s hs
  rw [setFrequency_apply]
  split_ifs with h1 h2
  · exact hP.fault _ _ hs
  · exact hP.fault _ _ hs
  · exact hP.log
      [.transaction (.regWrite (c.regAddr .frfMsb) (frfMsb (scaledHz f))),
       .transaction (.regWrite (c.regAddr .frfMid) (frfMid (scaledHz f))),
       .transaction (.regWrite (c.regAddr .frfLsb) (frfLsb (scaledHz f)))] _
      (hf (scaledHz f) (freqFloorHz_le_scaledHz h1) (by omega) s hs)

theorem Keeps.txPower (hP : Transparent P) (hp : KeepsPower P c) (p : Int) : Keeps P (txPower c p) :=
  (Keeps.regWrites hP _ _).bind fun _ => Keeps.update fun s hs =>
    hp _ s (by have := txLo_le_txHi c; unfold clamp; omega) (by unfold clamp; omega) hs

theorem Keeps.adjustPow (hP : Transparent P) (hp : KeepsPower P c) (margin target : Int) :
    Keeps P (adjustPow c margin target) :=
  (Keeps.demand hP.fault).bind fun _ => Keeps.ite (Keeps.txPower hP hp _)
    (Keeps.ite (Keeps.txPower hP hp _) (Keeps.ite (Keeps.txPower hP hp _) (Keeps.pure _)))

theorem Keeps.adjustFreq (hP : Transparent P) (hf : KeepsFrequency P) : Keeps P (adjustFreq c) :=
  (Keeps.demand hP.fault).bind fun _ => (Keeps.demand hP.fault).bind fun _ =>
    Keeps.ite (Keeps.raise (hP.fault _)) (Keeps.setFrequency hP hf _)

theorem Keeps.syncEdge (hP : Transparent P) (sync : Bool) : Keeps P (syncEdge sync) :=
  Keeps.ite ((Keeps.demand hP.fault).bind fun _ => Keeps.pure _) (Keeps.pure _)

theorem Keeps.captureEdge (hP : Transparent P) (hs : KeepsSync P c) : Keeps P (captureEdge c) :=
  (Keeps.regRead hP _ _).bind fun _ => (Keeps.regRead hP _ _).bind fun _ => (Keeps.regRead hP _ _).bind fun _ =>
    (Keeps.regRead hP _ _).bind fun _ => Keeps.update (hs _ _ _)

theorem Keeps.syncCheck (hP : Transparent P) (hs : KeepsSync P c) (hl : KeepsLastSync P) : Keeps P (syncCheck c) :=
  (Keeps.regRead hP _ _).bind fun _ => (Keeps.syncEdge hP _).bind fun _ =>
    Keeps.ite ((Keeps.captureEdge hP hs).bind fun _ => (Keeps.update (hl _)).bind fun _ => Keeps.pure _)
      ((Keeps.update (hl _)).bind fun _ => Keeps.pure _)

/-- readPayload's two outcomes, as one equation (R134). -/
theorem readPayload_eq (c : Config) (n : Nat) (s : State) : readPayload c n s =
    match s.rssiRaw with
    | some r => .ok (s.packetCount, s.packetData n)
        (State.setPayloadMetrics (snrOf c (s.answer 0) (s.answer 1) r) (linkMargin (snrOf c (s.answer 0) (s.answer 1) r))
          (((s.afterRead c .rssiValue).afterFifoRead c n).afterRead c .rssiValue))
    | none => .error (.unwritten .rssiRaw) (State.setFault (.unwritten .rssiRaw)
        (((s.afterRead c .rssiValue).afterFifoRead c n).afterRead c .rssiValue)) := by
  cases h : s.rssiRaw with
  | none => rw [readPayload_of_none h, ← payload_reads_state]; rfl
  | some r => rw [readPayload_of_some h, payload_reads_state]; rfl

theorem Keeps.readPayload (hP : Transparent P) (hp : KeepsPayload P c) (n : Nat) : Keeps P (readPayload c n) := by
  intro s hs
  have h1 : P (s.afterRead c .rssiValue) := Keeps.regRead hP c .rssiValue s hs
  have h2 : P ((s.afterRead c .rssiValue).afterFifoRead c n) := Keeps.fifoRead hP c n _ h1
  have h3 : P (((s.afterRead c .rssiValue).afterFifoRead c n).afterRead c .rssiValue) :=
    Keeps.regRead hP c .rssiValue _ h2
  rw [readPayload_eq]
  cases h : s.rssiRaw with
  | none => exact hP.fault _ _ h3
  | some r => exact hp _ _ _ _ h h3

theorem Keeps.readAckBody (hP : Transparent P) (hf : KeepsFrequency P) (hp : KeepsPower P c) (hy : KeepsPayload P c)
    (len : Byte) : Keeps P (readAckBody c len) := by
  refine (Keeps.readPayload hP hy _).bind fun x => (Keeps.acceptAck hP _ _).bind fun _ => Keeps.ite ?_ (Keeps.pure _)
  refine Keeps.bind ?_ fun _ => Keeps.pure _
  unfold adaptIfTrailer
  split
  · exact (Keeps.adjustFreq hP hf).bind fun _ => Keeps.ite (Keeps.adjustPow hP hp _ _) (Keeps.pure _)
  · exact Keeps.pure _

theorem Keeps.presence (hP : Transparent P) (v : Byte) (k : Nat) : Keeps P (presence c v k) := by
  induction k with
  | zero => exact Keeps.pure _
  | succ k ih =>
    exact (Keeps.regWrite hP _ _ _).bind fun _ => (Keeps.regRead hP _ _).bind fun _ => Keeps.ite (Keeps.pure _) ih

/-! ## Commands -/

theorem Keeps.sendBody (hP : Transparent P) (h1 : ∀ s, P s → P (s.setMode .freqSynth))
    (h2 : ∀ s, P s → P (s.setMode .transmit)) (flags : BitVec 2) (destId : BitVec 6) (payload : List Byte) :
    Keeps P (sendBody c flags destId payload) :=
  (Keeps.checkReady hP.fault).bind fun _ => Keeps.ite (Keeps.raise (hP.fault _))
    ((Keeps.setMode hP h1).bind fun _ => (Keeps.encodeFrame hP _ _ _).bind fun _ =>
      (Keeps.fifoWrite hP _ _).bind fun _ => (Keeps.setMode hP h2).bind fun _ => Keeps.pure _)

theorem Keeps.receiveBody (hP : Transparent P) (hm : ∀ s, P s → P (s.setMode .receive)) (hs : KeepsSync P c)
    (hl : KeepsLastSync P) (hy : KeepsPayload P c) (len : Byte) : Keeps P (receiveBody c len) := by
  refine (Keeps.checkReady hP.fault).bind fun _ => (Keeps.checkLen hP _ _).bind fun _ =>
    (Keeps.demand hP.fault).bind fun _ => Keeps.ite ?_ ((Keeps.setMode hP hm).bind fun _ => Keeps.pure _)
  exact (Keeps.syncCheck hP hs hl).bind fun _ => (Keeps.regRead hP _ _).bind fun _ =>
    Keeps.ite ((Keeps.readPayload hP hy _).bind fun _ => (Keeps.acceptData hP _ _).bind fun _ =>
      Keeps.ite (Keeps.pure _) (Keeps.pure _)) (Keeps.pure _)

theorem Keeps.getAckBody (hP : Transparent P) (hm : ∀ s, P s → P (s.setMode .receive)) (hs : KeepsSync P c)
    (hl : KeepsLastSync P) (hf : KeepsFrequency P) (hp : KeepsPower P c) (hy : KeepsPayload P c) (len : Byte) :
    Keeps P (getAckBody c len) := by
  refine (Keeps.checkReady hP.fault).bind fun _ => (Keeps.checkLen hP _ _).bind fun _ =>
    (Keeps.demand hP.fault).bind fun m => ?_
  cases m with
  | sleep => exact Keeps.raise (hP.fault _)
  | standby => exact Keeps.raise (hP.fault _)
  | freqSynth => exact Keeps.raise (hP.fault _)
  | transmit =>
    exact (Keeps.regRead hP _ _).bind fun _ => Keeps.ite ((Keeps.regWrite hP _ _ _).bind fun _ =>
      (Keeps.regWrite hP _ _ _).bind fun _ => (Keeps.setMode hP hm).bind fun _ => Keeps.pure _) (Keeps.pure _)
  | receive =>
    refine (Keeps.syncCheck hP hs hl).bind fun _ => Keeps.ite (Keeps.bind ?_ fun _ => Keeps.pure _)
      ((Keeps.regRead hP _ _).bind fun _ => Keeps.ite (Keeps.readAckBody hP hf hp hy _) (Keeps.pure _))
    exact Keeps.ite ((Keeps.demand hP.fault).bind fun _ => Keeps.txPower hP hp _) (Keeps.pure _)

theorem Keeps.readAckCommandBody (hP : Transparent P) (hf : KeepsFrequency P) (hp : KeepsPower P c)
    (hy : KeepsPayload P c) (len : Byte) : Keeps P (readAckCommandBody c len) :=
  (Keeps.checkReady hP.fault).bind fun _ => (Keeps.checkLen hP _ _).bind fun _ => Keeps.readAckBody hP hf hp hy _

theorem Keeps.txPowerBody (hP : Transparent P) (hp : KeepsPower P c) (dBm : Byte) : Keeps P (txPowerBody c dBm) :=
  (Keeps.checkReady hP.fault).bind fun _ => (Keeps.txPower hP hp _).bind fun _ => Keeps.pure _

theorem Keeps.adjustPowBody (hP : Transparent P) (hp : KeepsPower P c) (margin target : Byte) :
    Keeps P (adjustPowBody c margin target) :=
  (Keeps.checkReady hP.fault).bind fun _ => (Keeps.adjustPow hP hp _ _).bind fun _ => Keeps.pure _

theorem Keeps.adjustFreqBody (hP : Transparent P) (hf : KeepsFrequency P) : Keeps P (adjustFreqBody c) :=
  (Keeps.checkReady hP.fault).bind fun _ => (Keeps.adjustFreq hP hf).bind fun _ => Keeps.pure _

theorem Keeps.sleepBody (hP : Transparent P) (hm : ∀ s, P s → P (s.setMode .sleep)) : Keeps P (sleepBody c) :=
  (Keeps.checkReady hP.fault).bind fun _ => (Keeps.setMode hP hm).bind fun _ => Keeps.pure _

theorem Keeps.addInfoBody (hP : Transparent P) : Keeps P (addInfoBody c) :=
  (Keeps.checkReady hP.fault).bind fun _ => (Keeps.demand hP.fault).bind fun _ =>
    (Keeps.demand hP.fault).bind fun _ => Keeps.pure _

theorem Keeps.modeReadyBody (hP : Transparent P) : Keeps P (modeReadyBody c) :=
  (Keeps.checkReady hP.fault).bind fun _ => (Keeps.regRead hP _ _).bind fun _ => Keeps.pure _

theorem Keeps.telemetry (hP : Transparent P) {α : Type} (field : Field) (get : State → Option α) (toInt : α → Int) :
    Keeps P (telemetry field get toInt) :=
  (Keeps.checkReady hP.fault).bind fun _ => (Keeps.demand hP.fault).bind fun _ => Keeps.pure _

/-- A property that survives every write of the commands other than INIT survives each of those commands. -/
theorem Keeps.bodyOf (h : KeepsAll P c) {i : Instr} (hi : i.opcode ≠ 0x01) : Keeps P (bodyOf c i) := by
  cases i with
  | init _ _ _ => exact absurd rfl hi
  | send flags destId payload =>
    exact Keeps.sendBody h.transparent (h.mode _ (by decide)) (h.mode _ (by decide)) _ _ _
  | receive len => exact Keeps.receiveBody h.transparent (h.mode _ (by decide)) h.sync h.lastSync h.payload _
  | getAck len =>
    exact Keeps.getAckBody h.transparent (h.mode _ (by decide)) h.sync h.lastSync h.frequency h.power h.payload _
  | readAck len => exact Keeps.readAckCommandBody h.transparent h.frequency h.power h.payload _
  | txPower dBm => exact Keeps.txPowerBody h.transparent h.power _
  | adjustPow margin target => exact Keeps.adjustPowBody h.transparent h.power _ _
  | adjustFreq => exact Keeps.adjustFreqBody h.transparent h.frequency
  | sleep => exact Keeps.sleepBody h.transparent (h.mode _ (by decide))
  | addInfo => exact Keeps.addInfoBody h.transparent
  | modeReady => exact Keeps.modeReadyBody h.transparent
  | rdRssi => exact Keeps.telemetry h.transparent _ _ _
  | rdFe => exact Keeps.telemetry h.transparent _ _ _
  | rdLna => exact Keeps.telemetry h.transparent _ _ _
  | rdMargin => exact Keeps.telemetry h.transparent _ _ _
  | rdFreq => exact Keeps.telemetry h.transparent _ _ _
  | rdTxPow => exact Keeps.telemetry h.transparent _ _ _

end Sys2Proof.Machine
end

