-- ==== Sys2Proof/Laws/Init.lean ====
section
/-! SUPPORT. The presence check of INIT and the writes after it, one spec lemma each (R170, R171). -/

namespace Sys2Proof.Machine

theorem nonceEvents_succ (c : Config) (v : Byte) (s : State) (k : Nat) :
    nonceEvents c v s 0 (k + 1) =
      [.transaction (.regWrite (c.regAddr c.nonceReg) v),
       .transaction (.regRead (c.regAddr c.nonceReg) (s.answer 0))] ++
      nonceEvents c v ((s.afterWrite c c.nonceReg v).afterRead c c.nonceReg) 0 k := by
  simp [nonceEvents, List.range_succ_eq_map, List.flatMap_map]

theorem firstMatch_succ (c : Config) (v : Byte) (s : State) (k : Nat) :
    firstMatch v s 0 (k + 1) =
      if s.answer 0 = v then some 0
      else (firstMatch v ((s.afterWrite c c.nonceReg v).afterRead c c.nonceReg) 0 k).map (· + 1) := by
  unfold firstMatch
  rw [List.range_succ_eq_map, List.find?_cons]
  by_cases h : s.answer 0 = v
  · simp [h]
  · have hb : (s.answer 0 == v) = false := by simpa using h
    simp only [Nat.zero_add, Nat.add_zero, hb, h, if_false, List.find?_map, Function.comp_def, answer_afterRead,
      answer_afterWrite]

/-- One attempt, then `k` more. -/
theorem afterAttempts_succ (c : Config) (v : Byte) (s : State) (k : Nat) :
    ((s.afterWrite c c.nonceReg v).afterRead c c.nonceReg).afterAttempts c v k = s.afterAttempts c v (k + 1) := by
  unfold State.afterAttempts
  rw [nonceEvents_succ]
  ext1 <;> simp [State.afterRead, State.afterWrite, Nat.add_comm, Nat.add_left_comm]
  rfl

/-- Everything the presence check of one sentinel can do: it stops after the first equal read-back, or uses up its
attempts (R170, R171). -/
theorem presence_apply (c : Config) (v : Byte) (k : Nat) (s : State) :
    presence c v k s = match firstMatch v s 0 k with
      | some j => .ok true (s.afterAttempts c v (j + 1))
      | none => .ok false (s.afterAttempts c v k) := by
  induction k generalizing s with
  | zero => simp [presence, firstMatch, State.afterAttempts, nonceEvents]
  | succ k ih =>
    rw [presence_succ, firstMatch_succ c]
    by_cases h : s.answer 0 = v
    · simp only [h, if_true]
      rw [← afterAttempts_succ]
      congr 1
      unfold State.afterAttempts
      ext1 <;> simp [nonceEvents]
    · simp only [h, if_false, ih]
      cases firstMatch v ((s.afterWrite c c.nonceReg v).afterRead c c.nonceReg) 0 k <;> simp [afterAttempts_succ]

/-- After `n` attempts the next sentinel is looked for from the answer `n` on. -/
theorem firstMatch_afterAttempts (c : Config) (v w : Byte) (s : State) (n k : Nat) :
    firstMatch v (s.afterAttempts c w n) 0 k = firstMatch v s n k := by
  unfold firstMatch
  congr 1
  funext j
  have : (s.afterAttempts c w n).answer (0 + j) = s.answer (n + j) := by
    unfold State.answer State.afterAttempts
    simp [List.getD_eq_getElem?_getD, List.getElem?_drop, Nat.add_assoc]
  rw [this]

theorem firstMatch_withIdentity (c : Config) (v id group : Byte) (s : State) (n k : Nat) :
    firstMatch v (s.withIdentity c id group) n k = firstMatch v s n k := rfl

/-- Everything INIT's writes after a passed presence check can do (R170, R206, R209). -/
theorem initBringUp_apply (c : Config) (u : State) (group : Byte) (freq : Hz32) :
    initBringUp c group freq u =
      if freq = 0 then .error .freqZeroHang ((u.afterTable c).faulting .freqZeroHang)
      else if freqCeilingHz ≤ scaledHz freq.toNat then
        .error (.freqOutOfRange (scaledHz freq.toNat))
          ((u.afterTable c).faulting (.freqOutOfRange (scaledHz freq.toNat)))
      else .ok .success (((u.afterTable c).afterFrequency c (scaledHz freq.toNat)).linkUp c group) := by
  have e : (memWrites c.configTable >>= fun _ => setMode c .sleep) u = .ok () (u.afterTable c) := by
    simp [memWrites]
    rfl
  simp only [initBringUp, bind_apply, memWrites, update_apply, setMode_apply] at e ⊢
  injection e with _ e
  rw [e, setFrequency_apply]
  have hz : freq = 0 ↔ freq.toNat = 0 :=
    ⟨fun h => by simp [h], fun h => BitVec.eq_of_toNat_eq (by simpa using h)⟩
  by_cases h1 : freq = 0
  · simp [h1]
    rfl
  · have h1' := mt hz.2 h1
    simp only [h1, h1', if_false]
    by_cases h2 : freqCeilingHz ≤ scaledHz freq.toNat
    · simp [h2]
      rfl
    · simp [h2]
      rfl

end Sys2Proof.Machine
end

