-- ==== Sys2Proof/Laws/PerInstr.lean ====
section
/-! SUPPORT. The family `EncodesItsLength`: the frame of each command starts with its opcode byte and has the length the
column "bytes" of R61 gives it. -/

/-- The command's frame starts with its opcode and has its stated length (R61). -/
def Sys2Proof.Laws.EncodesItsLength.Statement (i : Sys2Proof.Instr) : Prop :=
  (Sys2Proof.encode i).head? = some i.opcode ∧ (Sys2Proof.encode i).length = i.frameLength

namespace Sys2Proof.Laws.EncodesItsLength

theorem init (id group : Byte) (freq : Hz32) : Statement (.init id group freq) := ⟨rfl, rfl⟩

theorem send (flags : BitVec 2) (destId : BitVec 6) (payload : List Byte) : Statement (.send flags destId payload) :=
  ⟨rfl, by simp [encode, Instr.argBytes, Instr.frameLength]; omega⟩

theorem receive (len : Byte) : Statement (.receive len) := ⟨rfl, rfl⟩

theorem getAck (len : Byte) : Statement (.getAck len) := ⟨rfl, rfl⟩

theorem readAck (len : Byte) : Statement (.readAck len) := ⟨rfl, rfl⟩

theorem txPower (dBm : Byte) : Statement (.txPower dBm) := ⟨rfl, rfl⟩

theorem adjustPow (margin target : Byte) : Statement (.adjustPow margin target) := ⟨rfl, rfl⟩

theorem adjustFreq : Statement .adjustFreq := ⟨rfl, rfl⟩

theorem sleep : Statement .sleep := ⟨rfl, rfl⟩

theorem addInfo : Statement .addInfo := ⟨rfl, rfl⟩

theorem modeReady : Statement .modeReady := ⟨rfl, rfl⟩

theorem rdRssi : Statement .rdRssi := ⟨rfl, rfl⟩

theorem rdFe : Statement .rdFe := ⟨rfl, rfl⟩

theorem rdLna : Statement .rdLna := ⟨rfl, rfl⟩

theorem rdMargin : Statement .rdMargin := ⟨rfl, rfl⟩

theorem rdFreq : Statement .rdFreq := ⟨rfl, rfl⟩

theorem rdTxPow : Statement .rdTxPow := ⟨rfl, rfl⟩

end Sys2Proof.Laws.EncodesItsLength
end

