-- ==== Sys2Proof/Tests/Slice0.lean ====
section
/-! SUPPORT. Small tests. Expected values come from the spec: from the opcode map of R61, and from the vectors of
spec/95_test_vectors.md, whose parameter set P0 is `p0` here. A test whose vector needs P0 runs the meanings' bodies with
`execWith p0`; the machine itself runs them with `Config.chip` (Laws/Parametric.lean). Below, `witness_<obligation>` shows
a concrete state and operands that meet the hypotheses of the obligation of that name, clause by clause. -/

namespace Sys2Proof.Tests

open Sys2Proof Sys2Proof.Machine

/-! ## P0, S1 and one run -/

/-- The parameter set P0 (95_test_vectors.md section 0); the parameters it leaves symbolic are 0x11, 0x22 and 0. -/
def p0 : Config := withDefaults
  { paVariant := .paLow
    regAddr := defaultRegAddr
    modeCode := defaultModeCode
    irq1SyncBit := 0
    irq1ModeReadyBit := 0
    irq1TimeoutBit := 0
    irq2PayloadReadyBit := 0
    irq2PacketSentBit := 0
    lnaShift := 0
    rssiDivisorPred := 0
    feSign := .plus
    parityFn := fun _ => 0
    catchallIgnoresParity := true
    ackFlagCheck := false
    configTable := []
    nonceReg := .fifo
    nonceRetriesPred := 2
    syncGroupReg := .fifo
    txPowerInit := 13
    paLevelWrites := suggestedPaLowWrites
    channelBwHz := 100000
    ackTimeout1 := 0x11
    ackTimeout2 := 0x22
    targetMarginDb := 10
    powerControlEnabled := true
    timeoutBoostEnabled := true
    feInfoCode := fun _ => 0 }

/-- The state S1 (95_test_vectors.md section 0), with an empty history. -/
def s1 : State :=
  { State.reset with
    linkState := .ready
    mode := some .sleep
    nodeId := some 5
    groupParity := some 3
    currentFrequency := some 868000000
    txPowerDbm := some 13
    lastSync := some false }

/-- The state after one command over P0, where the outcome is a next state. -/
def after (i : Instr) (s : State) : Option State :=
  match execWith p0 i s with
  | .next t => some t
  | .fault _ => none
  | .refused _ => none

/-- A register write as an entry of H, by name over P0. -/
def wr (r : Reg) (v : Byte) : Event := .transaction (.regWrite (defaultRegAddr r) v)

/-- A register read as an entry of H, by name over P0. -/
def rd (r : Reg) (v : Byte) : Event := .transaction (.regRead (defaultRegAddr r) v)

/-! ## Well-formedness (R61, R63) -/

theorem test_init_id_64_ill_formed : (Instr.init 64 6 868).wellFormed = false := by decide
theorem test_init_id_63_well_formed : (Instr.init 63 6 868).wellFormed = true := by decide
theorem test_send_63_bytes_ill_formed : (Instr.send 0 1 (List.replicate 63 0)).wellFormed = false := by decide
theorem test_send_62_bytes_well_formed : (Instr.send 0 1 (List.replicate 62 0)).wellFormed = true := by decide
theorem test_receive_1_ill_formed : (Instr.receive 1).wellFormed = false := by decide
theorem test_getAck_0_ill_formed : (Instr.getAck 0).wellFormed = false := by decide
theorem test_readAck_1_ill_formed : (Instr.readAck 1).wellFormed = false := by decide
theorem test_send_256_bytes_has_no_frame : (Instr.send 0 1 (List.replicate 256 0)).encodable = false := by decide +kernel

/-! ## Decoding: one frame written out from the opcode map of R61 for each command -/

/-- V-LP1's encoding of `INIT 5, 6, 868`: the frequency most significant byte first. -/
theorem test_decode_init : decode [0x01, 0x05, 0x06, 0x00, 0x00, 0x03, 0x64] = .command (.init 5 6 868) [] := by decide
/-- Each byte of the frequency has its own place (R60). -/
theorem test_decode_init_byte_order :
    decode [0x01, 0x3F, 0xFF, 0x12, 0x34, 0x56, 0x78] = .command (.init 0x3F 0xFF 0x12345678) [] := by decide
/-- V-LP6's encoding of `SEND flags=2, dest=9, [0x41]`; the byte after the frame stays. -/
theorem test_decode_send : decode [0x02, 0x89, 0x01, 0x41, 0x09] = .command (.send 2 9 [0x41]) [0x09] := by decide
theorem test_decode_receive : decode [0x03, 0x40] = .command (.receive 64) [] := by decide
theorem test_decode_getAck : decode [0x04, 0x40] = .command (.getAck 64) [] := by decide
theorem test_decode_readAck : decode [0x05, 0x40] = .command (.readAck 64) [] := by decide
/-- V-AD1: `TXPOWER -128` is `06 80`. -/
theorem test_decode_txPower : decode [0x06, 0x80] = .command (.txPower (-128)) [] := by decide
/-- V-AD2: `ADJUSTPOW -13, 10` is `07 F3 0A`. -/
theorem test_decode_adjustPow : decode [0x07, 0xF3, 0x0A] = .command (.adjustPow (-13) 10) [] := by decide
theorem test_decode_adjustFreq : decode [0x08] = .command .adjustFreq [] := by decide
theorem test_decode_sleep : decode [0x09] = .command .sleep [] := by decide
theorem test_decode_addInfo : decode [0x0A] = .command .addInfo [] := by decide
theorem test_decode_modeReady : decode [0x0B] = .command .modeReady [] := by decide
theorem test_decode_rdRssi : decode [0x10] = .command .rdRssi [] := by decide
theorem test_decode_rdFe : decode [0x11] = .command .rdFe [] := by decide
theorem test_decode_rdLna : decode [0x12] = .command .rdLna [] := by decide
theorem test_decode_rdMargin : decode [0x13] = .command .rdMargin [] := by decide
theorem test_decode_rdFreq : decode [0x14] = .command .rdFreq [] := by decide
theorem test_decode_rdTxPow : decode [0x15] = .command .rdTxPow [] := by decide
/-- A frame shorter than its length is not a command (R61). -/
theorem test_decode_short_init : decode [0x01, 0x05, 0x06, 0x00, 0x00, 0x03] = .incomplete := by decide
theorem test_decode_short_send : decode [0x02, 0x89, 0x02, 0x41] = .incomplete := by decide
/-- V-EX2: the opcodes beside the map's gaps and ends. -/
theorem test_decode_illegal : ∀ op ∈ ([0x00, 0x0C, 0x0F, 0x16, 0xFF] : List Byte), decode [op] = .illegal op [] := by
  decide
theorem test_encode_send : encode (.send 2 9 [0x41]) = [0x02, 0x89, 0x01, 0x41] := by decide

/-- The opcode table's numbering: byte 0 of the frame is bits 7..0. -/
theorem test_table_word_init : decodeTableWord 56 0x64030000060501 = some (.init 5 6 868) := by decide
/-- A table row that gives only the opcode byte: the other bytes of the frame are 0. -/
theorem test_table_word_opcode_only : decodeTableWord 8 0x02 = some (.send 0 0 []) ∧
    decodeTableWord 8 0x15 = some .rdTxPow ∧ decodeTableWord 8 0x0C = none := by decide
/-- The very next step runs the word placed (R30). -/
theorem test_fetch_word_runs : step (State.reset.withFetchWord 8 0x09) = exec .sleep State.reset := rfl

/-! ## INIT -/

/-- Program 1, step 1: the first read-back differs and is retried. -/
theorem test_init_retries : (after (.init 5 6 868) { State.reset with regAnswers := [0x00, 0xAA, 0x55] }).map
    (fun t => (t.linkState, t.currentFrequency, t.history)) =
    some (.ready, some 868000000,
      [wr .syncValue1 0xAA, rd .syncValue1 0x00, wr .syncValue1 0xAA, rd .syncValue1 0xAA,
       wr .syncValue1 0x55, rd .syncValue1 0x55, wr .opMode 0x00,
       wr .frfMsb 0xD9, wr .frfMid 0x00, wr .frfLsb 0x00, wr .syncValue2 0x06,
       .returned (.init 5 6 868) .success]) := by decide +kernel

/-- V-LP3: the second sentinel uses its own three tries; 8 transactions. -/
theorem test_init_second_sentinel_fails :
    (after (.init 5 6 868) { State.reset with regAnswers := [0xAA, 0x12, 0x12, 0x12] }).map
      (fun t => (t.linkState, t.mode, t.nodeId, transactionCount t.history)) =
    some (.failed, none, some 5, 8) := by decide +kernel

/-! ## SEND -/

/-- V-LP6. -/
theorem test_send_frame : (after (.send 2 9 [0x41]) s1).map (fun t => (t.mode, t.history)) =
    some (some .transmit,
      [wr .opMode 0x08, .transaction (.fifoWrite 0x00 [0x03, 0xC9, 0x85, 0x41]), wr .opMode 0x0C,
       .returned (.send 2 9 [0x41]) .nothing]) := by decide +kernel

/-- V-EX1: from reset, `NotReady` and H empty. -/
theorem test_send_from_reset : (after (.send 0 1 []) State.reset).map (fun t => (t.fault, t.history)) =
    some (some .notReady, []) := by decide +kernel

/-! ## RECEIVE -/

/-- Program 3, step 2: the edge latches, the payload is read between two RSSI samples, the packet is accepted. -/
theorem test_receive_accepts :
    (after (.receive 64) { s1 with
      mode := some .receive
      regAnswers := [0x01, 100, 0x20, 0xFF, 0xF6, 0x04, 180, 182]
      packets := [⟨12, [0xC5, 0x85, 0x30, 0x31, 0x32, 0x33, 0x34, 0x35, 0x36, 0x37, 0x38, 0x39]⟩] }).map
      (fun t => (t.rssiRaw, t.frequencyErrorHz, t.marginDb, resultsOf t.history)) =
    some (some 100, some 610, some 27,
      [.poll 12 (some [0xC5, 0x85, 0x30, 0x31, 0x32, 0x33, 0x34, 0x35, 0x36, 0x37, 0x38, 0x39])]) := by decide +kernel

/-- Program 3, step 3: another group's packet is rejected and still updates the payload-ready metrics. -/
theorem test_receive_rejects :
    (after (.receive 64) { s1 with
      mode := some .receive
      rssiRaw := some 100
      lastSync := some true
      regAnswers := [0x00, 0x04, 170, 171]
      packets := [⟨12, [0x45, 0x81, 0x30, 0x31, 0x32, 0x33, 0x34, 0x35, 0x36, 0x37, 0x38, 0x39]⟩] }).map
      (fun t => (t.rssiRaw, t.marginDb, t.lastSync, resultsOf t.history)) =
    some (some 100, some 22, some false,
      [.poll (-1) (some [0x45, 0x81, 0x30, 0x31, 0x32, 0x33, 0x34, 0x35, 0x36, 0x37, 0x38, 0x39])]) := by decide +kernel

/-! ## GETACK and READACK -/

/-- Program 2, step 5: packet-sent is seen. -/
theorem test_getAck_packet_sent :
    (after (.getAck 64) { s1 with mode := some .transmit, regAnswers := [0x08] }).map (fun t => (t.mode, t.history)) =
    some (some .receive,
      [rd .irqFlags2 0x08, wr .rxTimeout1 0x11, wr .rxTimeout2 0x22, wr .opMode 0x10,
       .returned (.getAck 64) (.poll (-1) none)]) := by decide +kernel

/-- Program 4, step 3: the ack's trailer drives both loops. -/
theorem test_getAck_adapts :
    (after (.getAck 64) { s1 with
      mode := some .receive
      txPowerDbm := some 10
      regAnswers := [0x01, 100, 0x20, 0xFF, 0xF6, 0x04, 180, 182]
      packets := [⟨4, [0xC5, 0x09, 0x14, 0x00]⟩] }).map
      (fun t => (t.currentFrequency, t.txPowerDbm, t.marginDb, resultsOf t.history)) =
    some (some 868000152, some 7, some 27, [.poll 4 (some [0xC5, 0x09, 0x14, 0x00])]) := by decide +kernel

/-- V-LP9: the rejected ack adapts nothing, and its data and metrics are delivered. -/
theorem test_readAck_rejects :
    (after (.readAck 64) { s1 with
      rssiRaw := some 100
      frequencyErrorHz := some 610
      txPowerDbm := some 10
      regAnswers := [180, 182]
      packets := [⟨4, [0xC6, 0x09, 0x14, 0x00]⟩] }).map
      (fun t => (t.currentFrequency, t.txPowerDbm, t.marginDb, resultsOf t.history)) =
    some (some 868000000, some 10, some 27, [.poll 0 (some [0xC6, 0x09, 0x14, 0x00])]) := by decide +kernel

/-- V-LP10: an empty ack has no trailer; three transactions. -/
theorem test_readAck_empty_ack :
    (after (.readAck 64) { s1 with
      rssiRaw := some 100
      frequencyErrorHz := some 610
      regAnswers := [180, 182]
      packets := [⟨2, [0xC5, 0x09]⟩] }).map (fun t => (transactionCount t.history, resultsOf t.history)) =
    some (3, [.poll 2 (some [0xC5, 0x09])]) := by decide +kernel

/-! ## Adaptation -/

/-- V-AD1: `TXPOWER 20` is held to 13, `PaLevel = 0x9F`. -/
theorem test_txPower_clamps : (after (.txPower 20) s1).map (fun t => (t.txPowerDbm, t.history)) =
    some (some 13, [wr .paLevel 0x9F, .returned (.txPower 20) .nothing]) := by decide +kernel

/-- V-AD1: `TXPOWER -128` is held to -18, `PaLevel = 0x80`. -/
theorem test_txPower_clamps_low : (after (.txPower 0x80) s1).map (fun t => (t.txPowerDbm, t.history)) =
    some (some (-18), [wr .paLevel 0x80, .returned (.txPower 0x80) .nothing]) := by decide +kernel

/-- W5, V-AD2: from 0 dBm, over the target by 10, 2, 4, 5, 0, and under it by 5 and 23. -/
theorem test_adjustPow_table :
    ([(20, 10), (12, 10), (14, 10), (15, 10), (10, 10), (5, 10), (-13, 10)] : List (Byte × Byte)).map (fun mt =>
      (after (.adjustPow mt.1 mt.2) { s1 with txPowerDbm := some 0 }).bind State.txPowerDbm) =
    [some (-3), some (-1), some (-1), some (-1), some 0, some 5, some 13] := by decide +kernel

/-- V-AD2: nothing is written at equality. -/
theorem test_adjustPow_equal_writes_nothing :
    (after (.adjustPow 10 10) s1).map (fun t => transactionCount t.history) = some 0 := by decide +kernel

/-- V-AD3: 610 Hz moves the frequency by 152 Hz; bytes D9 00 02. -/
theorem test_adjustFreq : (after .adjustFreq { s1 with frequencyErrorHz := some 610 }).map
    (fun t => (t.currentFrequency, t.history)) =
    some (some 868000152, [wr .frfMsb 0xD9, wr .frfMid 0x00, wr .frfLsb 0x02, .returned .adjustFreq .nothing]) := by decide +kernel

/-- V-AD3, W6: truncation toward zero, and the clamp at -25,000. -/
theorem test_adjustFreq_negative :
    ([-3, -610, -1998787] : List Int).map (fun fe =>
      (after .adjustFreq { s1 with frequencyErrorHz := some fe }).bind State.currentFrequency) =
    [some 868000000, some 867999848, some 867975000] := by decide +kernel

/-- V-AD5: margin -13 is the byte 0xF3. -/
theorem test_addInfo : (after .addInfo { s1 with marginDb := some (-13), frequencyErrorHz := some 610 }).map
    (fun t => resultsOf t.history) = some [.trailer 0xF3 0] := by decide +kernel

/-! ## Mode controller and telemetry -/

/-- V-MC2. -/
theorem test_sleep : (after .sleep s1).map (fun t => (t.mode, t.history)) =
    some (some .sleep, [wr .opMode 0x00, .returned .sleep .nothing]) := by decide +kernel

/-- V-MC3. -/
theorem test_modeReady : ([0x80, 0x7F] : List Byte).map (fun b =>
    (after .modeReady { s1 with regAnswers := [b] }).map (fun t => resultsOf t.history)) =
    [some [.flag true], some [.flag false]] := by decide +kernel

/-- V-LP11. -/
theorem test_telemetry_s1 : (after .rdFreq s1).map (fun t => t.history) = some [.returned .rdFreq (.value 868000000)] ∧
    (after .rdTxPow s1).map (fun t => t.history) = some [.returned .rdTxPow (.value 13)] ∧
    (after .rdRssi s1).map (fun t => t.fault) = some (some (.unwritten .rssiRaw)) ∧
    (after .rdMargin s1).map (fun t => t.fault) = some (some (.unwritten .marginDb)) := by decide +kernel

/-- R177: the raw byte, the gain and the error as integers. -/
theorem test_telemetry_metrics :
    (after .rdRssi { s1 with rssiRaw := some 0xFF }).map (fun t => resultsOf t.history) = some [.value 255] ∧
    (after .rdLna { s1 with lnaGainDb := some 24 }).map (fun t => resultsOf t.history) = some [.value 24] ∧
    (after .rdFe { s1 with frequencyErrorHz := some (-61) }).map (fun t => resultsOf t.history) = some [.value (-61)] := by decide +kernel

/-! ## Values of the rules -/

/-- V-PC1. -/
theorem test_parity : ([0x00, 0x01, 0x02, 0x03, 0x06, 0x10, 0x2A, 0x55, 0x80, 0xAA, 0xD4, 0xFF] : List Byte).map
    (groupParityOf p0) = [0, 1, 2, 3, 3, 1, 2, 0, 2, 0, 3, 0] := by decide +kernel

/-- V-LQ1. -/
theorem test_afc : ([0x0000, 0xFFF6, 0x000A, 0x8000, 0x7FFF] : List (BitVec 16)).map (afcToHz p0) =
    [0, 610, -610, 1998848, -1998787] := by decide +kernel

/-- V-LQ2. -/
theorem test_lna : ([0x00, 0x08, 0x10, 0x18, 0x20, 0x28, 0x30, 0x38, 0xC7, 0xFF] : List Byte).map (lnaGain p0) =
    [0, 0, 6, 12, 24, 36, 48, 48, 0, 48] := by decide +kernel

/-- W3, V-PC6, V-PC7. -/
theorem test_frequency : ([1, 868, 8683, 99999999, 100000000] : List Nat).map scaledHz =
    [100000000, 868000000, 868300000, 999999990, 100000000] ∧
    frfBits 868300000 = 0xD91333 ∧ frfBits 1023999999 = 0xFFFFFF ∧ frfBits 100000000 = 0x190000 := by decide +kernel

/-- R115, R116: 1,024 is scaled to 102,400,000, the first value at or above the floor; 1,024,000,000 is out of range.
The line of V-PC7 that scales 1,024 to 1,024,000,000 differs from the rule, which the model follows (log entry 20). -/
theorem test_scale_stops_at_first : scaledHz 1024 = 102400000 ∧
    (match setFrequency p0 1024000000 s1 with
      | .ok _ _ => none
      | .error f t => some (f, t.history)) = some (.freqOutOfRange 1024000000, []) := by decide +kernel

/-- V-PC8. -/
theorem test_trailer : infoTrailer 4 [0xC5, 0x09, 0xF3, 0x00] 4 = some (0xF3, 0x00) ∧ peerMargin 0xF3 = -13 ∧
    infoTrailer 3 [0xC5, 0x09, 0x0F] 64 = none ∧ infoTrailer 4 [0xC5, 0x09] 2 = none := by decide +kernel

/-- W2, V-PC3: accepted and rejected destination bytes and lengths. -/
theorem test_filter : ([(12, 0xC5), (12, 0xC0), (12, 0x45), (12, 0x40), (12, 0xC7), (12, 0xFF), (1, 0xC5), (65, 0xC5),
      (2, 0xC5), (64, 0xC5)] : List (Byte × Byte)).map
      (fun cd => match acceptData p0 cd.1 [cd.2, 0x05] s1 with
        | .ok b _ => some b
        | .error _ _ => none) =
    [some true, some true, some false, some false, some false, some false, some false, some false, some true, some true] := by decide +kernel

/-- V-PC5 with `ACK_FLAG_CHECK`: the source byte's bit 6 is asked for. -/
theorem test_ack_flag : ([0x09, 0x49] : List Byte).map
      (fun src => match acceptAck { p0 with ackFlagCheck := true } 2 [0xC5, src] s1 with
        | .ok b _ => some b
        | .error _ _ => none) = [some false, some true] := by decide +kernel

/-! ## Witnesses: concrete states and operands that meet the hypotheses of each obligation -/

/-- Every bit of 0xFF is set, so every flag read from it is set whatever its position (R66). -/
theorem bit_of_ff (i : Fin 8) : (0xFF : Byte).getLsbD i.val = true := by
  revert i
  decide

/-- Every bit of 0x00 is clear. -/
theorem bit_of_00 (i : Fin 8) : (0x00 : Byte).getLsbD i.val = false := by
  revert i
  decide

/-- A Ready block in Receive mode with every field written, the sync flag already seen, and a listed packet of length
byte 4: an ack with a trailer for parity 3, id 5. -/
def listening (answers : List Byte) : State :=
  { s1 with
    mode := some .receive
    txPowerDbm := some 10
    rssiRaw := some 100
    lnaGainDb := some 24
    frequencyErrorHz := some 0
    snrDb := some 40
    marginDb := some 27
    lastSync := some true
    regAnswers := answers
    packets := [⟨4, [0xC5, 0x49, 0x14, 0x00]⟩] }

/-- The first answer after the sync check without an edge. -/
theorem answer_after_check (a b : Byte) (rest : List Byte) :
    ((listening (a :: b :: rest)).afterSyncCheck Config.chip true).answer 0 = b := by
  simp [State.afterSyncCheck, State.edgeSeen, listening, State.answer]

theorem witness_DecodeOfEncodeIsTheCommand :
    (Instr.init 0xFF 0xFF 0xFFFFFFFF).encodable = true ∧ (Instr.send 3 63 []).encodable = true ∧
      (Instr.send 3 63 (List.replicate 255 0)).encodable = true ∧ (Instr.receive 0).encodable = true := by decide +kernel

theorem witness_DecodedBytesAreTheCommandsFrame : decode [0x02, 0xC0, 0x00, 0x09] = .command (.send 3 0 []) [0x09] := by
  decide

theorem witness_ShortFrameIsNotACommand :
    (Instr.init 5 6 868).encodable = true ∧ 0 < (encode (.init 5 6 868)).length ∧ 6 < (encode (.init 5 6 868)).length := by
  decide

theorem witness_UnlistedOpcodeRaisesIllegalCommand (op : Byte)
    (h : op ∈ ([0x00, 0x0C, 0x0F, 0x16, 0xFF] : List Byte)) :
    (s1.setInbox [op, 0x09]).fault = none ∧ (s1.setInbox [op, 0x09]).inbox = op :: [0x09] ∧
      (op.toNat = 0 ∨ (0x0C ≤ op.toNat ∧ op.toNat ≤ 0x0F) ∨ 0x16 ≤ op.toNat) := by
  refine ⟨rfl, rfl, ?_⟩
  revert op
  decide

theorem witness_StepRunsTheDecodedCommand : decode (s1.setInbox [0x03, 0x40, 0x14]).inbox = .command (.receive 64) [0x14] := by
  decide

theorem witness_IncompleteFrameLeavesTheBlockWaiting :
    decode State.reset.inbox = .incomplete ∧ decode (s1.setInbox [0x07, 0x14]).inbox = .incomplete := by decide

theorem witness_SleepRecordsSleepAndKeepsTheRest : s1.fault = none ∧ s1.linkState = .ready ∧
    State.reset.fault = none ∧ State.reset.linkState ≠ .ready := by decide

theorem witness_ModeReadyAnswersTheFlag : s1.fault = none ∧ s1.linkState = .ready ∧
    (State.setLink .failed s1).fault = none ∧ (State.setLink .failed s1).linkState ≠ .ready := by decide

theorem witness_SendStagesTheFrameBetweenTwoModes : s1.fault = none ∧ s1.linkState = .ready ∧
    s1.groupParity = some 3 ∧ s1.nodeId = some 5 ∧ ([] : List Byte).length ≤ 62 ∧
    (List.replicate 62 (0 : Byte)).length ≤ 62 ∧ 62 < (List.replicate 63 (0 : Byte)).length ∧
    State.reset.fault = none ∧ State.reset.linkState ≠ .ready := by decide

theorem witness_TxPowerWritesTheClampedPower : s1.fault = none ∧ s1.linkState = .ready ∧
    State.reset.fault = none ∧ State.reset.linkState ≠ .ready := by decide

theorem witness_AdjustPowFollowsTheFourCases : s1.fault = none ∧ s1.linkState = .ready ∧ s1.txPowerDbm = some 13 ∧
    State.reset.fault = none ∧ State.reset.linkState ≠ .ready := by decide

/-- With an error of 0 Hz the new frequency is the current one, whatever the bandwidth. -/
theorem zero_error_keeps (cur : Hz32) : (cur.toNat : Int) =
    (cur.toNat : Int) + min ((Config.chip.channelBwHz / 4 : Nat) : Int)
      (max (-((Config.chip.channelBwHz / 4 : Nat) : Int)) (Int.tdiv 0 4)) := by
  have : (0 : Int) ≤ ((Config.chip.channelBwHz / 4 : Nat) : Int) := Int.natCast_nonneg _
  simp only [Int.zero_tdiv]
  omega

theorem witness_AdjustFreqProgramsTheCorrectedFrequency :
    s1.fault = none ∧ s1.linkState = .ready ∧ s1.currentFrequency = some 868000000 ∧
    (listening []).frequencyErrorHz = some 0 ∧ (listening []).fault = none ∧ (listening []).linkState = .ready ∧
    ((0 : Hz32).toNat : Int) < 1 ∧
    (1 ≤ ((1 : Hz32).toNat : Int) ∧ ((1 : Hz32).toNat : Int) ≤ 2 ^ 32 - 1 ∧ scaledHz (1 : Int).toNat < 1024000000) ∧
    (1 ≤ ((1024000000 : Hz32).toNat : Int) ∧ ((1024000000 : Hz32).toNat : Int) ≤ 2 ^ 32 - 1 ∧
      1024000000 ≤ scaledHz (1024000000 : Int).toNat) ∧
    scaledHz (1023999999 : Int).toNat < 1024000000 ∧
    s1.frequencyErrorHz = none ∧ State.reset.linkState ≠ .ready := by decide +kernel

theorem witness_AddInfoAnswersTheTrailer :
    (listening []).fault = none ∧ (listening []).linkState = .ready ∧ (listening []).marginDb = some 27 ∧
    (listening []).frequencyErrorHz = some 0 ∧ s1.linkState = .ready ∧ s1.marginDb = none ∧
    (State.setPayloadMetrics 40 27 s1).marginDb.isSome ∧ (State.setPayloadMetrics 40 27 s1).frequencyErrorHz = none ∧
    State.reset.linkState ≠ .ready := by decide

theorem witness_ScaleFreqStopsAtTheFloor : (0 < 1 ∧ 1 < 100000000) ∧ (0 < 99999999 ∧ 99999999 < 100000000) ∧
    100000000 ≤ 100000000 := by decide

theorem witness_FrequencyBytesDecodeWithinOneStep :
    (100000000 ≤ 100000000 ∧ 100000000 < 1024000000) ∧ 100000000 ≤ 1023999999 ∧ 1023999999 < 1024000000 := by decide

/-- A power of 10 dBm lies in both ranges of R2. -/
theorem ten_dBm_in_range (c : Config) : txLo c ≤ 10 ∧ 10 ≤ txHi c := by
  unfold txLo txHi
  cases c.paVariant <;> decide

theorem witness_AdjustPowSequencesStayInRange : (listening []).fault = none ∧ (listening []).linkState = .ready ∧
    (listening []).txPowerDbm.isSome = true ∧ (listening []).powerInRange Config.chip := by
  refine ⟨rfl, rfl, rfl, fun p h => ?_⟩
  cases h
  exact ten_dBm_in_range _

theorem witness_TelemetryAnswersTheSnapshot : s1.fault = none ∧ s1.linkState = .ready ∧
    (listening []).rssiRaw = some 100 ∧ (listening []).frequencyErrorHz = some 0 ∧ (listening []).lnaGainDb = some 24 ∧
    (listening []).marginDb = some 27 ∧ s1.currentFrequency = some 868000000 ∧ s1.txPowerDbm = some 13 ∧
    s1.rssiRaw = none ∧ s1.frequencyErrorHz = none ∧ s1.lnaGainDb = none ∧ s1.marginDb = none ∧
    ({ s1 with currentFrequency := none } : State).currentFrequency = none ∧
    ({ s1 with txPowerDbm := none } : State).txPowerDbm = none ∧ State.reset.linkState ≠ .ready := by decide

theorem witness_ReceiveEntersReceiveMode : s1.fault = none ∧ s1.linkState = .ready ∧ 2 ≤ (2 : Byte).toNat ∧
    s1.mode = some .sleep ∧ Mode.sleep ≠ .receive := by decide

theorem witness_ReceiveWithoutPayloadAnswersMinusOne :
    (listening [0, 0]).fault = none ∧ (listening [0, 0]).linkState = .ready ∧ 2 ≤ (2 : Byte).toNat ∧
    (listening [0, 0]).mode = some .receive ∧ (listening [0, 0]).lastSync = some true ∧
    (((listening [0, 0]).afterSyncCheck Config.chip true).answer 0).getLsbD
      Config.chip.irq2PayloadReadyBit.val = false := by
  refine ⟨rfl, rfl, by decide, rfl, rfl, ?_⟩
  rw [answer_after_check]
  exact bit_of_00 _

/-- The same on a sync edge: the flags byte 0xFF has the sync bit wherever it is. -/
theorem witness_ReceiveWithoutPayloadAnswersMinusOne_edge :
    ((State.setLastSync false (listening [0xFF, 100, 0x20, 0xFF, 0xF6, 0])).edgeSeen Config.chip false = true) ∧
    (((State.setLastSync false (listening [0xFF, 100, 0x20, 0xFF, 0xF6, 0])).afterSyncCheck Config.chip false).answer
      0).getLsbD Config.chip.irq2PayloadReadyBit.val = false := by
  have h : (State.setLastSync false (listening [0xFF, 100, 0x20, 0xFF, 0xF6, 0])).edgeSeen Config.chip false = true := by
    simp only [State.edgeSeen, Bool.not_false, Bool.and_true]
    exact bit_of_ff _
  refine ⟨h, ?_⟩
  simp only [State.afterSyncCheck, h, if_true]
  exact bit_of_00 _

/-- The metrics the packet is read with are those before the sync check, where no edge is seen. -/
theorem fields_after_check (answers : List Byte) :
    (((listening answers).afterSyncCheck Config.chip true).afterRead Config.chip .irqFlags2).rssiRaw = some 100 ∧
    (((listening answers).afterSyncCheck Config.chip true).afterRead Config.chip .irqFlags2).frequencyErrorHz =
      some 0 := by
  simp [State.afterSyncCheck, State.edgeSeen, listening, State.afterRead]

theorem witness_ReceiveFiltersThePacket :
    (listening [0, 0xFF]).fault = none ∧ (listening [0, 0xFF]).linkState = .ready ∧ 2 ≤ (64 : Byte).toNat ∧
    (listening [0, 0xFF]).mode = some .receive ∧ (listening [0, 0xFF]).lastSync = some true ∧
    (((listening [0, 0xFF]).afterSyncCheck Config.chip true).answer 0).getLsbD
      Config.chip.irq2PayloadReadyBit.val = true ∧
    (((listening [0, 0xFF]).afterSyncCheck Config.chip true).afterRead Config.chip .irqFlags2).rssiRaw = some 100 ∧
    (listening [0, 0xFF]).groupParity = some 3 ∧ (listening [0, 0xFF]).nodeId = some 5 ∧
    dataAccepted Config.chip 3 5 4 0xC5 ∧ dataAccepted Config.chip 3 5 2 0xC0 ∧ dataAccepted Config.chip 3 5 64 0xC5 ∧
    ¬ dataAccepted Config.chip 3 5 12 0x45 ∧ ¬ dataAccepted Config.chip 3 5 1 0xC5 ∧
    ¬ dataAccepted Config.chip 3 5 65 0xC5 := by
  refine ⟨rfl, rfl, by decide, rfl, rfl, ?_, (fields_after_check _).1, rfl, rfl, ?_⟩
  · rw [answer_after_check]
    exact bit_of_ff _
  · simp [dataAccepted]

theorem witness_ReceiveWithoutEdgeFaultsAfterItsReads :
    ({ listening [0, 0xFF] with rssiRaw := none } : State).lastSync = some true ∧
    ((({ listening [0, 0xFF] with rssiRaw := none } : State).afterSyncCheck Config.chip true).answer 0).getLsbD
      Config.chip.irq2PayloadReadyBit.val = true ∧
    ((({ listening [0, 0xFF] with rssiRaw := none } : State).afterSyncCheck Config.chip true).afterRead Config.chip
      .irqFlags2).rssiRaw = none := by
  refine ⟨rfl, ?_, ?_⟩
  · simp only [State.afterSyncCheck, State.edgeSeen, Bool.not_true, Bool.and_false, Bool.false_eq_true, if_false]
    exact bit_of_ff _
  · simp [State.afterSyncCheck, State.edgeSeen, State.afterRead]

theorem witness_EndToEndScenarioFiltersByParity :
    (listening [0, 0xFF]).nodeId = some 5 ∧ (listening [0, 0xFF]).groupParity = some 3 ∧
    (((listening [0, 0xFF]).afterSyncCheck Config.chip true).answer 0).getLsbD
      Config.chip.irq2PayloadReadyBit.val = true ∧
    ((listening [0, 0xFF]).afterSyncCheck Config.chip true).rssiRaw = some 100 ∧
    ({ listening [0, 0xFF] with packets := [⟨12, [0xC5]⟩] } : State).packetCount = 12 ∧
    ({ listening [0, 0xFF] with packets := [⟨12, [0xC5]⟩] } : State).packetByte 0 = 0xC5 ∧
    (({ listening [0, 0xFF] with packets := [⟨12, [0x45]⟩] } : State).packetByte 0).extractLsb' 6 2 ≠ 3 := by
  refine ⟨rfl, rfl, ?_, (fields_after_check _).1, rfl, rfl, by decide⟩
  rw [answer_after_check]
  exact bit_of_ff _

theorem witness_GetAckTransmitPhaseWaitsForPacketSent :
    (State.setMode .transmit (listening [0])).fault = none ∧
    (State.setMode .transmit (listening [0])).linkState = .ready ∧ 2 ≤ (2 : Byte).toNat ∧
    (State.setMode .transmit (listening [0])).mode = some .transmit ∧
    ((State.setMode .transmit (listening [0])).answer 0).getLsbD Config.chip.irq2PacketSentBit.val = false ∧
    ((State.setMode .transmit (listening [0xFF])).answer 0).getLsbD Config.chip.irq2PacketSentBit.val = true :=
  ⟨rfl, rfl, by decide, rfl, bit_of_00 _, bit_of_ff _⟩

theorem witness_GetAckTimeoutAnswersZero :
    (listening [0xFF]).fault = none ∧ (listening [0xFF]).linkState = .ready ∧ 2 ≤ (2 : Byte).toNat ∧
    (listening [0xFF]).mode = some .receive ∧ (listening [0xFF]).lastSync = some true ∧
    (listening [0xFF]).txPowerDbm = some 10 ∧
    ((listening [0xFF]).answer 0).getLsbD Config.chip.irq1TimeoutBit.val = true :=
  ⟨rfl, rfl, by decide, rfl, rfl, rfl, bit_of_ff _⟩

theorem witness_GetAckKeepsWaiting :
    (listening [0, 0]).fault = none ∧ (listening [0, 0]).linkState = .ready ∧ 2 ≤ (2 : Byte).toNat ∧
    (listening [0, 0]).mode = some .receive ∧ (listening [0, 0]).lastSync = some true ∧
    ((listening [0, 0]).answer 0).getLsbD Config.chip.irq1TimeoutBit.val = false ∧
    (((listening [0, 0]).afterSyncCheck Config.chip true).answer 0).getLsbD
      Config.chip.irq2PayloadReadyBit.val = false := by
  refine ⟨rfl, rfl, by decide, rfl, rfl, bit_of_00 _, ?_⟩
  rw [answer_after_check]
  exact bit_of_00 _

theorem witness_GetAckOutsideItsPhasesRaisesNoAckWait : s1.fault = none ∧ s1.linkState = .ready ∧
    2 ≤ (2 : Byte).toNat ∧ s1.mode = some .sleep ∧ (State.setMode .standby s1).mode = some .standby ∧
    (State.setMode .freqSynth s1).mode = some .freqSynth := by decide

/-- The listed ack is accepted by every configuration: its header has parity 3, id 5 and bit 6 of the source byte. -/
theorem ack_accepted (c : Config) : ackAccepted c 3 5 4 0xC5 0x49 ∧ ackAccepted c 3 5 2 0xC5 0x49 ∧
    ackAccepted c 3 5 64 0xC5 0x49 ∧ ¬ ackAccepted c 3 5 4 0xC6 0x49 ∧ ¬ ackAccepted c 3 5 1 0xC5 0x49 ∧
    ¬ ackAccepted c 3 5 65 0xC5 0x49 := by
  simp [ackAccepted]

/-- The correction of 0 Hz fits at 868 MHz and not at 1024 MHz, whatever the bandwidth. -/
theorem zero_correction_fits (c : Config) : correctionFits c 0 868000000 ∧ ¬ correctionFits c 0 1024000000 := by
  have hz : freqCorrection c 0 = 0 := by
    have : (0 : Int) ≤ ((c.channelBwHz / 4 : Nat) : Int) := Int.natCast_nonneg _
    simp only [freqCorrection, tdiv, clamp, Int.zero_tdiv]
    omega
  simp only [correctionFits, correctedFrequency, hz]
  decide +kernel

/-- Nor does it fit at 0 Hz. -/
theorem zero_correction_below_one (c : Config) : ¬ correctionFits c 0 0 := by
  have hz : freqCorrection c 0 = 0 := by
    have : (0 : Int) ≤ ((c.channelBwHz / 4 : Nat) : Int) := Int.natCast_nonneg _
    simp only [freqCorrection, tdiv, clamp, Int.zero_tdiv]
    omega
  simp only [correctionFits, correctedFrequency, hz]
  decide +kernel

theorem witness_GetAckDeliversTheAck :
    (listening [0, 0xFF]).fault = none ∧ (listening [0, 0xFF]).linkState = .ready ∧ 2 ≤ (64 : Byte).toNat ∧
    (listening [0, 0xFF]).mode = some .receive ∧ (listening [0, 0xFF]).lastSync = some true ∧
    ((listening [0, 0xFF]).answer 0).getLsbD Config.chip.irq1TimeoutBit.val = false ∧
    (((listening [0, 0xFF]).afterSyncCheck Config.chip true).answer 0).getLsbD
      Config.chip.irq2PayloadReadyBit.val = true ∧
    (((listening [0, 0xFF]).afterSyncCheck Config.chip true).afterRead Config.chip .irqFlags2).rssiRaw = some 100 ∧
    (((listening [0, 0xFF]).afterSyncCheck Config.chip true).afterRead Config.chip .irqFlags2).frequencyErrorHz =
      some 0 ∧
    (listening [0, 0xFF]).currentFrequency = some 868000000 ∧ (listening [0, 0xFF]).txPowerDbm = some 10 ∧
    (listening [0, 0xFF]).groupParity = some 3 ∧ (listening [0, 0xFF]).nodeId = some 5 ∧
    ackAccepted Config.chip 3 5 (listening [0, 0xFF]).packetCount ((listening [0, 0xFF]).packetByte 0)
      ((listening [0, 0xFF]).packetByte 1) ∧
    trailerDelivered (listening [0, 0xFF]).packetCount 64 ∧ ¬ trailerDelivered 3 64 ∧ ¬ trailerDelivered 4 3 ∧
    correctionFits Config.chip 0 868000000 ∧ ¬ ackAccepted Config.chip 3 5 4 0xC6 0x49 := by
  refine ⟨rfl, rfl, by decide, rfl, rfl, bit_of_00 _, ?_, (fields_after_check _).1, (fields_after_check _).2, rfl, rfl,
    rfl, rfl, (ack_accepted _).1, ?_, ?_, ?_, (zero_correction_fits _).1, (ack_accepted _).2.2.2.1⟩
  · rw [answer_after_check]
    exact bit_of_ff _
  · exact ⟨by decide, by decide⟩
  · simp [trailerDelivered]
  · simp [trailerDelivered]

/-- Its fault clauses: no RSSI after the check, no error after the check, and a correction out of range. -/
theorem witness_GetAckDeliversTheAck_faults :
    ((({ listening [0, 0xFF] with rssiRaw := none } : State).afterSyncCheck Config.chip true).answer 0).getLsbD
      Config.chip.irq2PayloadReadyBit.val = true ∧
    ((({ listening [0, 0xFF] with rssiRaw := none } : State).afterSyncCheck Config.chip true).afterRead Config.chip
      .irqFlags2).rssiRaw = none ∧
    ((({ listening [0, 0xFF] with frequencyErrorHz := none } : State).afterSyncCheck Config.chip true).answer 0).getLsbD
      Config.chip.irq2PayloadReadyBit.val = true ∧
    ((({ listening [0, 0xFF] with frequencyErrorHz := none } : State).afterSyncCheck Config.chip true).afterRead Config.chip
      .irqFlags2).rssiRaw = some 100 ∧
    ((({ listening [0, 0xFF] with frequencyErrorHz := none } : State).afterSyncCheck Config.chip true).afterRead Config.chip
      .irqFlags2).frequencyErrorHz = none ∧
    (((State.setFrequency 1024000000 (listening [0, 0xFF])).afterSyncCheck Config.chip true).answer 0).getLsbD
      Config.chip.irq2PayloadReadyBit.val = true ∧
    (((State.setFrequency 1024000000 (listening [0, 0xFF])).afterSyncCheck Config.chip true).afterRead Config.chip
      .irqFlags2).frequencyErrorHz = some 0 ∧
    (State.setFrequency 1024000000 (listening [0, 0xFF])).currentFrequency = some 1024000000 ∧
    ¬ correctionFits Config.chip 0 1024000000 := by
  refine ⟨?_, ?_, ?_, ?_, ?_, ?_, ?_, rfl, (zero_correction_fits _).2⟩ <;>
    simp only [State.afterSyncCheck, State.edgeSeen, Bool.not_true, Bool.and_false, Bool.false_eq_true, if_false,
      State.setFrequency, listening]
  · exact bit_of_ff _
  · rfl
  · exact bit_of_ff _
  · rfl
  · rfl
  · exact bit_of_ff _
  · rfl

theorem witness_GetAckScenarioHolds :
    (State.setMode .transmit (listening [0, 0, 0, 0xFF, 0xFF])).fault = none ∧
    (State.setMode .transmit (listening [0, 0, 0, 0xFF, 0xFF])).linkState = .ready ∧ 2 ≤ (64 : Byte).toNat ∧
    (State.setMode .transmit (listening [0, 0, 0, 0xFF, 0xFF])).mode = some .transmit ∧
    (State.setMode .transmit (listening [0, 0, 0, 0xFF, 0xFF])).lastSync = some true ∧
    (State.setMode .transmit (listening [0, 0, 0, 0xFF, 0xFF])).txPowerDbm.isSome = true ∧
    (∀ k, k < 3 → ((State.setMode .transmit (listening [0, 0, 0, 0xFF, 0xFF])).answer k).getLsbD
      Config.chip.irq2PacketSentBit.val = false) ∧
    ((State.setMode .transmit (listening [0, 0, 0, 0xFF, 0xFF])).answer 3).getLsbD
      Config.chip.irq2PacketSentBit.val = true ∧
    ((State.setMode .transmit (listening [0, 0, 0, 0xFF, 0xFF])).answer 4).getLsbD
      Config.chip.irq1TimeoutBit.val = true := by
  refine ⟨rfl, rfl, by decide, rfl, rfl, rfl, fun k hk => ?_, bit_of_ff _, bit_of_ff _⟩
  interval_cases k <;> exact bit_of_00 _

theorem witness_ReadAckFiltersAndAdapts :
    (listening []).fault = none ∧ (listening []).linkState = .ready ∧ 2 ≤ (64 : Byte).toNat ∧
    (listening []).rssiRaw = some 100 ∧ (listening []).frequencyErrorHz = some 0 ∧
    (listening []).currentFrequency = some 868000000 ∧ (listening []).txPowerDbm = some 10 ∧
    (listening []).groupParity = some 3 ∧ (listening []).nodeId = some 5 ∧
    ackAccepted Config.chip 3 5 (listening []).packetCount ((listening []).packetByte 0) ((listening []).packetByte 1) ∧
    trailerDelivered (listening []).packetCount 4 ∧ correctionFits Config.chip 0 868000000 ∧
    ackAccepted Config.chip 3 5 2 0xC5 0x49 ∧ ¬ trailerDelivered 2 64 ∧
    ¬ ackAccepted Config.chip 3 5 65 0xC5 0x49 := by
  refine ⟨rfl, rfl, by decide, rfl, rfl, rfl, rfl, rfl, rfl, (ack_accepted _).1, ⟨by decide, by decide⟩,
    (zero_correction_fits _).1, (ack_accepted _).2.1, ?_, (ack_accepted _).2.2.2.2.2⟩
  simp [trailerDelivered]

theorem witness_ReadAckFrequencyFaultRollsNothingBack :
    (State.setFrequency 1024000000 (listening [])).currentFrequency = some 1024000000 ∧
    (State.setFrequency 1024000000 (listening [])).rssiRaw = some 100 ∧
    (State.setFrequency 1024000000 (listening [])).frequencyErrorHz = some 0 ∧
    ackAccepted Config.chip 3 5 (State.setFrequency 1024000000 (listening [])).packetCount
      ((State.setFrequency 1024000000 (listening [])).packetByte 0) ((State.setFrequency 1024000000 (listening [])).packetByte 1) ∧
    trailerDelivered (State.setFrequency 1024000000 (listening [])).packetCount 64 ∧ ¬ correctionFits Config.chip 0 1024000000 :=
  ⟨rfl, rfl, rfl, (ack_accepted _).1, ⟨by decide, by decide⟩, (zero_correction_fits _).2⟩

/-- The other fault value: at 0 Hz the correction of 0 Hz leaves a frequency below 1. -/
theorem witness_ReadAckFrequencyFaultRollsNothingBack_low :
    (State.setFrequency 0 (listening [])).currentFrequency = some 0 ∧
    (State.setFrequency 0 (listening [])).frequencyErrorHz = some 0 ∧ ¬ correctionFits Config.chip 0 0 :=
  ⟨rfl, rfl, zero_correction_below_one _⟩

theorem witness_ReadAckWithoutEdgeFaultsAfterItsReads :
    ({ listening [] with rssiRaw := none } : State).fault = none ∧
    ({ listening [] with rssiRaw := none } : State).linkState = .ready ∧ 2 ≤ (2 : Byte).toNat ∧
    ({ listening [] with rssiRaw := none } : State).rssiRaw = none ∧
    ({ listening [] with frequencyErrorHz := none } : State).rssiRaw = some 100 ∧
    ({ listening [] with frequencyErrorHz := none } : State).groupParity = some 3 ∧
    ({ listening [] with frequencyErrorHz := none } : State).nodeId = some 5 ∧
    ackAccepted Config.chip 3 5 ({ listening [] with frequencyErrorHz := none } : State).packetCount
      (({ listening [] with frequencyErrorHz := none } : State).packetByte 0)
      (({ listening [] with frequencyErrorHz := none } : State).packetByte 1) ∧
    trailerDelivered ({ listening [] with frequencyErrorHz := none } : State).packetCount 4 ∧
    ({ listening [] with frequencyErrorHz := none } : State).frequencyErrorHz = none :=
  ⟨rfl, rfl, by decide, rfl, rfl, rfl, rfl, (ack_accepted _).1, ⟨by decide, by decide⟩, rfl⟩

/-- R153, R209 with the parameters P0: 1,023,999,999 Hz and an error of 610 Hz give 1,024,000,151 Hz, past the 24-bit limit;
1 Hz and an error of -4 Hz give 0 Hz. -/
theorem test_refused_frequency :
    ¬ correctionFits p0 610 1023999999 ∧ refusedFrequency p0 610 1023999999 = 1024000151 ∧
    ¬ correctionFits p0 (-4) 1 ∧ refusedFrequency p0 (-4) 1 = 0 := by
  unfold correctionFits
  decide +kernel

theorem witness_InfoTrailerIsTheLastTwoPayloadBytes :
    ([0xC5, 0x09, 0x0F, 0x22] : List Byte).length = min (4 : Byte).toNat (4 : Byte).toNat ∧
    ([0xC5, 0x09, 0x0F] : List Byte).length = min (3 : Byte).toNat (64 : Byte).toNat ∧
    ([0xC5, 0x09, 0x0F] : List Byte).length = min (4 : Byte).toNat (3 : Byte).toNat := by decide

/-- A Ready block that meets the invariant. -/
theorem listening_inv (answers : List Byte) : (listening answers).Inv Config.chip := by
  refine ⟨fun _ => ⟨rfl, rfl, rfl, rfl, rfl, rfl⟩, fun f h => ?_, fun p h => ?_, ⟨fun g h => ?_, fun e h => ?_⟩,
    ⟨fun n h => ?_, fun m h => ?_⟩, ⟨Iff.rfl, Iff.rfl, Iff.rfl, fun _ => rfl⟩, fun h => by cases h⟩
  · cases h
    decide
  · cases h
    exact ten_dBm_in_range _
  · cases h
    decide
  · cases h
    exact ⟨0, by decide, by decide, by decide⟩
  · cases h
    decide
  · cases h
    exact ⟨40, rfl, by decide⟩

theorem witness_AcksOnlyMissTheRssi :
    (State.clearMetrics (listening [])).Inv Config.chip ∧ (State.clearMetrics (listening [])).fault = none ∧
    (State.clearMetrics (listening [])).linkState = .ready ∧
    ∃ t, exec (.readAck 64) (State.clearMetrics (listening [])) = .next t ∧
      t.fault = some (.unwritten .rssiRaw) := by
  refine ⟨?_, rfl, rfl, _, rfl, rfl⟩
  obtain ⟨a, b, c, d, e, f, g⟩ := listening_inv []
  refine ⟨a, b, c, ⟨fun g h => ?_, fun e h => ?_⟩, ⟨fun n h => ?_, fun m h => ?_⟩, ⟨by decide, by decide, by decide,
    fun h => ?_⟩, g⟩
  · cases h
  · cases h
  · cases h
  · cases h
  · cases h

/-- A radio that answers both sentinels at once, whatever the number of tries. -/
theorem present_radio :
    firstMatch 0xAA (listening [0xAA, 0x55]) 0 (nonceRetries Config.chip) = some 0 ∧
    firstMatch 0x55 (listening [0xAA, 0x55]) (0 + 1) (nonceRetries Config.chip) = some 0 := by
  constructor <;>
  · rw [firstMatch, nonceRetries, List.range_succ_eq_map, List.find?_cons]
    rfl

theorem witness_InitSucceedsAfterBothSentinels :
    (listening [0xAA, 0x55]).fault = none ∧ (0 : Byte).toNat ≤ 63 ∧ (63 : Byte).toNat ≤ 63 ∧
    firstMatch 0xAA (listening [0xAA, 0x55]) 0 (nonceRetries Config.chip) = some 0 ∧
    firstMatch 0x55 (listening [0xAA, 0x55]) (0 + 1) (nonceRetries Config.chip) = some 0 ∧
    0 < (1 : Hz32).toNat ∧ scaledHz (1 : Hz32).toNat < 1024000000 ∧ scaledHz (1023999999 : Hz32).toNat < 1024000000 :=
  ⟨rfl, by decide, by decide, present_radio.1, present_radio.2, by decide +kernel, by decide +kernel, by decide +kernel⟩

/-- A silent radio: every read-back of the first sentinel is 0x00; and one that answers only the first sentinel. -/
theorem absent_radio :
    firstMatch 0xAA (listening (List.replicate (nonceRetries Config.chip) 0)) 0 (nonceRetries Config.chip) = none ∧
    firstMatch 0xAA (listening (0xAA :: List.replicate (nonceRetries Config.chip) 0)) 0
      (nonceRetries Config.chip) = some 0 ∧
    firstMatch 0x55 (listening (0xAA :: List.replicate (nonceRetries Config.chip) 0)) (0 + 1)
      (nonceRetries Config.chip) = none := by
  refine ⟨?_, ?_, ?_⟩
  · rw [firstMatch, List.find?_eq_none]
    intro j hj
    simp [State.answer, listening, List.getD_eq_getElem?_getD, List.mem_range.1 hj]
  · rw [firstMatch, nonceRetries, List.range_succ_eq_map, List.find?_cons]
    rfl
  · rw [firstMatch, List.find?_eq_none]
    intro j hj
    simp [State.answer, listening, List.getD_eq_getElem?_getD, Nat.add_comm 1 j, List.mem_range.1 hj]

theorem witness_InitFailsWhenOneSentinelNeverReadsBack :
    (listening (List.replicate (nonceRetries Config.chip) 0)).fault = none ∧ (63 : Byte).toNat ≤ 63 ∧
    firstMatch 0xAA (listening (List.replicate (nonceRetries Config.chip) 0)) 0 (nonceRetries Config.chip) = none ∧
    firstMatch 0xAA (listening (0xAA :: List.replicate (nonceRetries Config.chip) 0)) 0
      (nonceRetries Config.chip) = some 0 ∧
    firstMatch 0x55 (listening (0xAA :: List.replicate (nonceRetries Config.chip) 0)) (0 + 1)
      (nonceRetries Config.chip) = none ∧
    ∃ t, exec (.init 63 6 868) (listening []) = .next t :=
  ⟨rfl, by decide, absent_radio.1, absent_radio.2.1, absent_radio.2.2, _, rfl⟩

theorem witness_InitFrequencyFaultComesAfterSleep :
    (listening [0xAA, 0x55]).fault = none ∧ (5 : Byte).toNat ≤ 63 ∧
    firstMatch 0xAA (listening [0xAA, 0x55]) 0 (nonceRetries Config.chip) = some 0 ∧
    firstMatch 0x55 (listening [0xAA, 0x55]) (0 + 1) (nonceRetries Config.chip) = some 0 ∧
    0 < (1024000000 : Hz32).toNat ∧ 1024000000 ≤ scaledHz (1024000000 : Hz32).toNat ∧
    1024000000 ≤ scaledHz (4294967295 : Hz32).toNat :=
  ⟨rfl, by decide, present_radio.1, present_radio.2, by decide +kernel, by decide +kernel, by decide +kernel⟩

theorem witness_InitsOfOneGroupAgreeOnParity : (0 : Byte).toNat ≤ 63 ∧ (63 : Byte).toNat ≤ 63 ∧
    (∃ t, exec (.init 0 6 868) State.reset = .next t) ∧ ∃ t, exec (.init 63 6 0) (listening []) = .next t :=
  ⟨by decide, by decide, ⟨_, rfl⟩, _, rfl⟩

theorem witness_OnlyInitRunsBeforeReady : State.reset.fault = none ∧ State.reset.linkState ≠ .ready ∧
    (∀ id group freq, Instr.sleep ≠ .init id group freq) ∧ Instr.init 5 6 868 = .init 5 6 868 :=
  ⟨rfl, by decide, by (intro _ _ _ h; cases h), rfl⟩

theorem witness_OutOfRangeArgumentRaisesBadArgument : s1.fault = none ∧ s1.linkState = .ready ∧
    (Instr.send 0 1 (List.replicate 63 0)).wellFormed = false ∧ (Instr.receive 1).wellFormed = false ∧
    (Instr.getAck 0).wellFormed = false ∧ (Instr.readAck 1).wellFormed = false ∧
    State.reset.fault = none ∧ State.reset.linkState ≠ .ready ∧ (Instr.init 64 6 868).wellFormed = false ∧
    (∀ id group freq, Instr.receive 1 ≠ .init id group freq) :=
  ⟨rfl, rfl, by decide, by decide, by decide, by decide, rfl, by decide, by decide, by intro _ _ _ h; cases h⟩

theorem witness_FaultedBlockExecutesNoCommand :
    (State.setFault .notReady State.reset).fault = some .notReady ∧
    step (State.setFault .notReady State.reset) = .next (State.setFault .notReady State.reset) := ⟨rfl, rfl⟩

theorem witness_CommandReturnsOrFaults : (∃ t, exec .sleep s1 = .next t ∧ t.fault = none) ∧
    ∃ t, exec .sleep State.reset = .next t ∧ t.fault = some .notReady := ⟨⟨_, rfl, rfl⟩, _, rfl, rfl⟩

theorem witness_StepKeepsTheInvariant :
    (State.setInbox [0x09] (listening [])).Inv Config.chip ∧
    ∃ t, step (State.setInbox [0x09] (listening [])) = .next t ∧ t.mode = some .sleep := by
  obtain ⟨a, b, c, d, e, f, g⟩ := listening_inv []
  exact ⟨⟨a, b, c, d, e, f, g⟩, _, rfl, rfl⟩

theorem witness_TransactionsStayWithinTheBound : ∃ t, exec .sleep s1 = .next t ∧ transactionCount t.history = 1 :=
  ⟨_, rfl, rfl⟩

theorem witness_RecordedModeFollowsTheTable : (∃ t, exec .sleep s1 = .next t ∧ t.fault = none) ∧
    (∃ t, exec (.receive 2) s1 = .next t ∧ t.fault = none ∧ t.mode = some .receive) ∧
    ∃ t, exec .modeReady s1 = .next t ∧ t.fault = none ∧ t.mode = some .sleep :=
  ⟨⟨_, rfl, rfl⟩, ⟨_, rfl, rfl, rfl⟩, _, rfl, rfl, rfl⟩

theorem witness_LinkFieldsHaveTheirWriters : (∃ t, exec .sleep s1 = .next t) ∧ Instr.sleep.opcode ≠ 0x01 ∧
    Instr.sleep.opcode ∉ ([0x01, 0x04, 0x05, 0x08] : List Byte) ∧
    Instr.adjustFreq.opcode ∉ ([0x01, 0x04, 0x05, 0x06, 0x07] : List Byte) ∧
    ∃ t, exec .adjustFreq (listening []) = .next t := ⟨⟨_, rfl⟩, by decide, by decide, by decide, _, rfl⟩

theorem witness_MetricsHaveTheirWriters : (∃ t, exec (.readAck 64) (listening []) = .next t) ∧
    (Instr.readAck 64).opcode ∉ ([0x01, 0x03, 0x04] : List Byte) ∧ (∃ t, exec (.txPower 10) s1 = .next t) ∧
    (Instr.txPower 10).opcode ∉ ([0x01, 0x03, 0x04, 0x05] : List Byte) := ⟨⟨_, rfl⟩, by decide, ⟨_, rfl⟩, by decide⟩

theorem witness_CommandsLeaveThePortAndUnreadRadioAlone : (∃ t, exec .modeReady s1 = .next t) ∧
    Instr.modeReady.opcode ∉ ([0x03, 0x04, 0x05] : List Byte) ∧ (∃ t, exec .rdFreq s1 = .next t) ∧
    Instr.rdFreq.opcode ∉ ([0x01, 0x03, 0x04, 0x05, 0x0B] : List Byte) := ⟨⟨_, rfl⟩, by decide, ⟨_, rfl⟩, by decide⟩

theorem witness_ResultsHaveTheirStatedRanges : (listening []).Inv Config.chip ∧
    ∃ t, exec .rdTxPow (listening []) = .next t ∧ t.fault = none ∧
      t.history.getLast? = some (.returned .rdTxPow (.value 10)) := ⟨listening_inv _, _, rfl, rfl, rfl⟩

theorem witness_PayloadMetricsStayInRange : rssiDivisor p0 = 2 := by decide

theorem witness_AfcErrorScalesTheSignedValue : p0.feSign = .minus ∧ ({ p0 with feSign := .plus } : Config).feSign = .plus :=
  ⟨rfl, rfl⟩

end Sys2Proof.Tests
end

/-! PROOFS. The Packet Codec (spec/41_packet_codec.md): the scaled frequency, the frequency bytes, the info trailer and
the group parity INIT leaves. -/

namespace Sys2Proof.Machine

/-! ## The scaled frequency (R115) -/

/-- The loop of `scaleFreq` with enough fuel stops at the least power of 10 that reaches the floor. -/
theorem scaleUp_eq_least_pow (n f : Nat) (h : freqFloorHz ≤ f * 10 ^ n) :
    ∃ k, scaleUp n f = f * 10 ^ k ∧ freqFloorHz ≤ f * 10 ^ k ∧ ∀ j, j < k → f * 10 ^ j < freqFloorHz := by
  induction n generalizing f with
  | zero => exact ⟨0, by simp [scaleUp], h, by simp⟩
  | succ n ih =>
    by_cases hlt : f < freqFloorHz
    · have shift : ∀ m, f * 10 * 10 ^ m = f * 10 ^ (m + 1) := fun m => by rw [pow_succ', mul_assoc]
      obtain ⟨k, heq, hfloor, hleast⟩ := ih (f * 10) (by rwa [shift])
      rw [shift] at heq hfloor
      refine ⟨k + 1, by rw [scaleUp, if_pos hlt, heq], hfloor, fun j hj => ?_⟩
      cases j with
      | zero => simpa using hlt
      | succ j => rw [← shift]; exact hleast j (by omega)
    · exact ⟨0, by simp [scaleUp, hlt], by simpa using hlt, by simp⟩

/-- Eight multiplications take every positive frequency to the floor, so `scaledHz` is the least power that does. -/
theorem scaledHz_eq_least_pow {f : Nat} (hf : 0 < f) :
    ∃ k, scaledHz f = f * 10 ^ k ∧ freqFloorHz ≤ f * 10 ^ k ∧ ∀ j, j < k → f * 10 ^ j < freqFloorHz :=
  scaleUp_eq_least_pow 8 f (by unfold freqFloorHz; omega)

/-- At or above the floor no multiplication takes place. -/
theorem scaledHz_of_floor_le {f : Nat} (h : freqFloorHz ≤ f) : scaledHz f = f := by
  rw [scaledHz, scaleUp, if_neg (by omega)]

/-- The last product below the floor times 10 is below ten floors. -/
theorem scaledHz_lt_of_lt_floor {f : Nat} (hf : 0 < f) (h : f < freqFloorHz) : scaledHz f < 10 * freqFloorHz := by
  obtain ⟨k, heq, hfloor, hleast⟩ := scaledHz_eq_least_pow hf
  cases k with
  | zero => simp at hfloor; omega
  | succ j =>
    have := hleast j (by omega)
    rw [heq, pow_succ, ← mul_assoc]
    omega

/-- Settles O16: the loop stops at the least power of 10 that reaches the floor. -/
theorem scaleFreqStopsAtTheFloor : Obligations.ScaleFreqStopsAtTheFloor := by
  refine ⟨fun f s hf => ⟨by simp [scaleFreq, hf.ne'], ?_⟩, fun s => rfl⟩
  obtain ⟨k, heq, hfloor, hleast⟩ := scaledHz_eq_least_pow hf
  refine ⟨k, heq, heq ▸ hfloor, hleast, fun hlt => ?_, scaledHz_of_floor_le⟩
  have := scaledHz_lt_of_lt_floor hf hlt
  unfold freqFloorHz at this
  omega

/-! ## The frequency bytes (R67, R117) -/

/-- The three written bytes, most significant first, are the 24-bit register value. -/
theorem frfBytes_append (hz : Nat) : frfMsb hz ++ frfMid hz ++ frfLsb hz = frfBits hz := by
  have high : frfMsb hz ++ frfMid hz = (frfBits hz).extractLsb' 8 16 :=
    BitVec.extractLsb'_append_extractLsb'_eq_extractLsb' rfl
  rw [high]
  exact (BitVec.extractLsb'_append_extractLsb'_eq_extractLsb' rfl).trans BitVec.extractLsb'_eq_self

/-- Below the ceiling the register value fits its 24 bits. -/
theorem frfBits_toNat {hz : Nat} (h : hz < freqCeilingHz) : (frfBits hz).toNat = frfOf hz := by
  rw [frfBits, BitVec.toNat_ofNat, Nat.mod_eq_of_lt]
  unfold frfOf fxoscHz
  unfold freqCeilingHz at h
  omega

/-- Settles O17: the register value is the quotient of a division by 32,000,000, whose remainder is less than one step. -/
theorem frequencyBytesDecodeWithinOneStep : Obligations.FrequencyBytesDecodeWithinOneStep := by
  intro hz _ hlt
  rw [frfBytes_append, frfBits_toNat hlt]
  have lower : ((frfOf hz * fxoscHz : Nat) : ℚ) ≤ ((hz * 2 ^ 19 : Nat) : ℚ) := Nat.cast_le.2 (Nat.div_mul_le_self _ _)
  have upper : ((hz * 2 ^ 19 : Nat) : ℚ) < (((frfOf hz + 1) * fxoscHz : Nat) : ℚ) :=
    Nat.cast_lt.2 (Nat.lt_mul_of_div_lt (Nat.lt_succ_self _) (by decide))
  unfold fxoscHz at lower upper
  push_cast at lower upper
  constructor <;> linarith

/-! ## The info trailer (R118) -/

/-- A trailer delivered whole is the last two of the delivered bytes. -/
theorem infoTrailer_of_delivered {count len : Byte} {data : List Byte} (h : trailerDelivered count len)
    (hd : data.length = count.toNat) :
    ∃ t0 t1, infoTrailer count data len = some (t0, t1) ∧ data = data.take (count.toNat - 2) ++ [t0, t1] := by
  obtain ⟨h4, hlen⟩ := h
  have last : data.drop (count.toNat - 2) = [data[count.toNat - 2], data[count.toNat - 1]] := by
    rw [List.drop_eq_getElem_cons (by omega), show count.toNat - 2 + 1 = count.toNat - 1 by omega,
      List.drop_eq_getElem_cons (by omega), List.drop_eq_nil_of_le (by omega)]
  refine ⟨data[count.toNat - 2], data[count.toNat - 1], ?_, ?_⟩
  · rw [infoTrailer, if_pos ⟨h4, hlen⟩, List.getElem?_eq_getElem (by omega), List.getElem?_eq_getElem (by omega)]
  · rw [← last, List.take_append_drop]

/-- The peer's margin is the first trailer byte in two's complement. -/
theorem peerMargin_eq (t0 : Byte) : peerMargin t0 = (t0.toNat : Int) - 256 * (if t0.getLsbD 7 then 1 else 0) := by
  rw [peerMargin, sext8, BitVec.toInt_eq_msb_cond, BitVec.msb_eq_getLsbD_last]
  split <;> simp_all

/-- Settles O33: a FIFO read of a buffer at least as long as the packet delivers all `count` bytes. -/
theorem infoTrailerIsTheLastTwoPayloadBytes : Obligations.InfoTrailerIsTheLastTwoPayloadBytes := by
  refine ⟨fun count len data hd => ⟨fun h4 hlen => ?_, fun h => ?_⟩, peerMargin_eq⟩
  · exact infoTrailer_of_delivered ⟨h4, hlen⟩ (by omega)
  · exact if_neg (by omega)

/-! ## The parity INIT leaves (R110, R111) -/

/-- The block's parity is written and is `p`. -/
def State.HasParity (p : BitVec 2) (s : State) : Prop := s.groupParity = some p

theorem transparent_hasParity (p : BitVec 2) : Transparent (State.HasParity p) :=
  ⟨fun _ _ h => h, fun _ _ h => h, fun _ h => h, fun _ h => h⟩

theorem Keeps.initFail_hasParity (p : BitVec 2) : Keeps (State.HasParity p) initFail := fun _ h => h

theorem Keeps.initBringUp_hasParity (c : Config) (p : BitVec 2) (group : Byte) (freq : Hz32) :
    Keeps (State.HasParity p) (initBringUp c group freq) := by
  intro u hu
  rw [initBringUp_apply]
  split
  · exact hu
  · split <;> exact hu

/-- Once the id is in range, INIT writes the group's parity first and nothing after it writes the field. -/
theorem initBody_hasParity (c : Config) {id : Byte} (hid : id.toNat ≤ 63) (group : Byte) (freq : Hz32) (s : State) :
    (endState (initBody c id group freq s)).HasParity (groupParityOf c group) := by
  have hpresence := fun v => Keeps.presence (c := c) (transparent_hasParity (groupParityOf c group)) v (nonceRetries c)
  have hfail := Keeps.initFail_hasParity (groupParityOf c group)
  rw [initBody, if_neg (by omega)]
  exact ((hpresence nonce1).bind fun _ => Keeps.ite ((hpresence nonce2).bind fun _ =>
    Keeps.ite (Keeps.initBringUp_hasParity c _ group freq) hfail) hfail)
      (s.setIdentity (lowSix id) (groupParityOf c group)) rfl

/-- INIT leaves the parity of its group, whether it succeeds, fails or faults. -/
theorem exec_init_groupParity {id group : Byte} {freq : Hz32} {s t : State} (hid : id.toNat ≤ 63)
    (h : exec (.init id group freq) s = .next t) : t.groupParity = some (groupParityOf Config.chip group) := by
  have hbody := initBody_hasParity Config.chip hid group freq s
  obtain ⟨_, ⟨r, u, hu, rfl⟩ | ⟨f, hu⟩⟩ := command_next h
  · rw [hu] at hbody
    exact hbody
  · rw [hu] at hbody
    exact hbody

/-- Settles O38: both blocks hold the parity of the one group. -/
theorem initsOfOneGroupAgreeOnParity : Obligations.InitsOfOneGroupAgreeOnParity := by
  intro s s' t t' id id' group freq freq' hid hid' h h'
  rw [exec_init_groupParity hid h, exec_init_groupParity hid' h']
  exact ⟨rfl, rfl⟩

end Sys2Proof.Machine


/-! PROOFS. The Link Quality block (spec/42_link_quality.md): the LNA gain. -/

namespace Sys2Proof.Machine

/-! ## The LNA gain (R133) -/

/-- The 3-bit code at `LNA_SHIFT` as arithmetic on the byte: shift down, keep three bits. -/
theorem lnaCode_toNat (c : Config) (b : Byte) :
    (b.extractLsb' c.lnaShift.val 3).toNat = b.toNat / 2 ^ c.lnaShift.val % 8 := by
  rw [BitVec.extractLsb'_toNat, Nat.shiftRight_eq_div_pow]

/-- `LNA_TABLE` as a list (R5): every 3-bit code has an entry. -/
theorem getElem?_lnaTable (code : BitVec 3) :
    ([0, 0, 6, 12, 24, 36, 48, 48] : List Nat)[code.toNat]? = some (lnaTable code) := by
  revert code
  decide

/-- Settles O52: the byte enters the gain through its 3-bit code alone. -/
theorem lnaGainReadsTheThreeBitCode : Obligations.LnaGainReadsTheThreeBitCode := by
  intro c b
  rw [← lnaCode_toNat]
  exact getElem?_lnaTable _

end Sys2Proof.Machine


/-! PROOFS. The Adaptation Engine (spec/43_adaptation.md): the info trailer's producer and the range of the power loop. -/

namespace Sys2Proof.Machine

/-! ## A command through its body (R30, R201) -/

/-- A command whose body returns leaves the body's state with the command's entry. -/
theorem exec_of_ok {i : Instr} {s t : State} {r : Result} (hs : s.fault = none)
    (hb : bodyOf Config.chip i s = .ok r t) : exec i s = .next (t.returning i r) :=
  (exec_eq_command i s).trans (command_of_ok hs hb)

/-- A command whose body faults leaves the body's state. -/
theorem exec_of_error {i : Instr} {s t : State} {f : Fault} (hs : s.fault = none)
    (hb : bodyOf Config.chip i s = .error f t) : exec i s = .next t :=
  (exec_eq_command i s).trans (command_of_error hs hb)

/-- The write of a raise is the statements' written-out state (R201). -/
theorem setFault_eq_faulting (f : Fault) (s : State) : s.setFault f = s.faulting f := rfl

/-- A sequence of commands each of which completes and keeps `P` completes and keeps `P`. -/
theorem execAll_keeps {P : State → Prop} {is : List Instr}
    (h : ∀ i ∈ is, ∀ s, P s → ∃ t, exec i s = .next t ∧ P t) {s : State} (hs : P s) :
    ∃ t, execAll is s = .next t ∧ P t := by
  induction is generalizing s with
  | nil => exact ⟨s, rfl, hs⟩
  | cons i is ih =>
    obtain ⟨t, hexec, ht⟩ := h i List.mem_cons_self s hs
    rw [execAll, hexec]
    exact ih (fun j hj => h j (List.mem_cons_of_mem i hj)) ht

/-! ## The info trailer's producer (R155) -/

theorem addInfoBody_of_written {s : State} {m fe : Int} (hr : s.linkState = .ready) (hm : s.marginDb = some m)
    (hfe : s.frequencyErrorHz = some fe) (c : Config) :
    addInfoBody c s = .ok (.trailer (marginByte m) (c.feInfoCode fe)) s := by
  simp [addInfoBody, checkReady_of_ready hr, demand_of_some hm, demand_of_some hfe]

theorem addInfoBody_of_no_margin {s : State} (hr : s.linkState = .ready) (hm : s.marginDb = none) (c : Config) :
    addInfoBody c s = .error (.unwritten .marginDb) (s.faulting (.unwritten .marginDb)) := by
  simp [addInfoBody, checkReady_of_ready hr, demand_of_none hm, setFault_eq_faulting]

theorem addInfoBody_of_no_error {s : State} {m : Int} (hr : s.linkState = .ready) (hm : s.marginDb = some m)
    (hfe : s.frequencyErrorHz = none) (c : Config) :
    addInfoBody c s = .error (.unwritten .frequencyErrorHz) (s.faulting (.unwritten .frequencyErrorHz)) := by
  simp [addInfoBody, checkReady_of_ready hr, demand_of_some hm, demand_of_none hfe, setFault_eq_faulting]

theorem addInfoBody_of_not_ready {s : State} (hr : s.linkState ≠ .ready) (c : Config) :
    addInfoBody c s = .error .notReady (s.faulting .notReady) := by
  simp [addInfoBody, checkReady_of_not_ready hr, setFault_eq_faulting]

/-- Settles O15: the readiness check comes first, then the margin is read, then the error. -/
theorem addInfoAnswersTheTrailer : Obligations.AddInfoAnswersTheTrailer := by
  refine ⟨rfl, fun s hs => ⟨fun hr m fe hm hfe => ?_, fun hr hm => ?_, fun hr hm hfe => ?_, fun hr => ?_⟩⟩
  · exact exec_of_ok hs (addInfoBody_of_written hr hm hfe _)
  · exact exec_of_error hs (addInfoBody_of_no_margin hr hm _)
  · obtain ⟨m, hm⟩ := Option.isSome_iff_exists.1 hm
    exact exec_of_error hs (addInfoBody_of_no_error hr hm hfe _)
  · exact exec_of_error hs (addInfoBody_of_not_ready hr _)

/-! ## The range of the power loop (R152, R154) -/

/-- A clamped value lies between its limits (R8). -/
theorem clamp_mem_range {lo hi : Int} (h : lo ≤ hi) (v : Int) : lo ≤ clamp v lo hi ∧ clamp v lo hi ≤ hi :=
  ⟨le_min h (le_max_left lo v), min_le_left hi _⟩

/-- A Ready block without a fault whose power is written and in `TX_RANGE`: what every ADJUSTPOW keeps (R154). -/
structure State.PowerLoopRuns (c : Config) (s : State) : Prop where
  noFault : s.fault = none
  ready : s.linkState = .ready
  written : s.txPowerDbm.isSome
  inRange : s.powerInRange c

/-- The clamp of txPower puts any requested power into `TX_RANGE` (R151). -/
theorem State.PowerLoopRuns.afterTxPower {c : Config} {s : State} (h : s.PowerLoopRuns c) (p : Int) :
    (s.afterTxPower c p).PowerLoopRuns c where
  noFault := h.noFault
  ready := h.ready
  written := rfl
  inRange _ hq := Option.some.inj hq ▸ clamp_mem_range (txLo_le_txHi c) p

/-- Each of the four cases of adjustPow is a txPower or changes nothing (R152). -/
theorem State.PowerLoopRuns.afterAdjustPow {c : Config} {s : State} (h : s.PowerLoopRuns c) (margin target p : Int) :
    (s.afterAdjustPow c margin target p).PowerLoopRuns c := by
  unfold State.afterAdjustPow
  split_ifs
  · exact h.afterTxPower _
  · exact h.afterTxPower _
  · exact h.afterTxPower _
  · exact h

theorem State.PowerLoopRuns.returning {c : Config} {s : State} (h : s.PowerLoopRuns c) (i : Instr) (r : Result) :
    (s.returning i r).PowerLoopRuns c :=
  ⟨h.noFault, h.ready, h.written, h.inRange⟩

theorem adjustPow_eq_afterAdjustPow {s : State} {p : Int} (hp : s.txPowerDbm = some p) (c : Config)
    (margin target : Int) : adjustPow c margin target s = .ok () (s.afterAdjustPow c margin target p) := by
  rw [adjustPow_apply hp, State.afterAdjustPow]
  split_ifs <;> rfl

theorem adjustPowBody_of_power {s : State} {p : Int} (hr : s.linkState = .ready) (hp : s.txPowerDbm = some p)
    (c : Config) (margin target : Byte) :
    adjustPowBody c margin target s = .ok .nothing (s.afterAdjustPow c (sext8 margin) (sext8 target) p) := by
  simp [adjustPowBody, checkReady_of_ready hr, adjustPow_eq_afterAdjustPow hp]

/-- One ADJUSTPOW returns, and the block still meets what it started from. -/
theorem exec_adjustPow_keeps_powerLoopRuns {s : State} (h : s.PowerLoopRuns Config.chip) (margin target : Byte) :
    ∃ t, exec (.adjustPow margin target) s = .next t ∧ t.PowerLoopRuns Config.chip := by
  obtain ⟨p, hp⟩ := Option.isSome_iff_exists.1 h.written
  exact ⟨_, exec_of_ok h.noFault (adjustPowBody_of_power h.ready hp Config.chip margin target),
    (h.afterAdjustPow _ _ p).returning _ _⟩

/-- The frequency correction is clamped to a quarter of the bandwidth (R153). -/
theorem freqCorrection_mem_range (c : Config) (fe : Int) :
    -((c.channelBwHz / 4 : Nat) : Int) ≤ freqCorrection c fe ∧ freqCorrection c fe ≤ ((c.channelBwHz / 4 : Nat) : Int) :=
  clamp_mem_range (by omega) _

/-- Settles O18: each command returns and leaves a block from which the next one does, and every correction is clamped. -/
theorem adjustPowSequencesStayInRange : Obligations.AdjustPowSequencesStayInRange := by
  refine ⟨fun cmds s hf hr hp hrange => ?_, freqCorrection_mem_range Config.chip⟩
  have each : ∀ i ∈ cmds.map fun mt => Instr.adjustPow mt.1 mt.2, ∀ s : State, s.PowerLoopRuns Config.chip →
      ∃ t, exec i s = .next t ∧ t.PowerLoopRuns Config.chip := by
    intro i hi s hs
    obtain ⟨mt, _, rfl⟩ := List.mem_map.1 hi
    exact exec_adjustPow_keeps_powerLoopRuns hs mt.1 mt.2
  obtain ⟨t, ht, hruns⟩ := execAll_keeps each ⟨hf, hr, hp, hrange⟩
  exact ⟨t, ht, hruns.noFault, hruns.written, hruns.inRange⟩

end Sys2Proof.Machine


/-! PROOFS. The Link Protocol (spec/44_link_protocol.md): the telemetry reads. -/

namespace Sys2Proof.Machine

/-! ## A telemetry read of any field (R177) -/

section
variable {α : Type} {get : State → Option α} {s : State}

theorem telemetry_of_some {v : α} (hr : s.linkState = .ready) (hv : get s = some v) (field : Field) (toInt : α → Int) :
    telemetry field get toInt s = .ok (.value (toInt v)) s := by
  simp [telemetry, checkReady_of_ready hr, demand_of_some hv]

theorem telemetry_of_none (hr : s.linkState = .ready) (hv : get s = none) (field : Field) (toInt : α → Int) :
    telemetry field get toInt s = .error (.unwritten field) (s.faulting (.unwritten field)) := by
  simp [telemetry, checkReady_of_ready hr, demand_of_none hv, setFault_eq_faulting]

theorem telemetry_of_not_ready (hr : s.linkState ≠ .ready) (field : Field) (get : State → Option α) (toInt : α → Int) :
    telemetry field get toInt s = .error .notReady (s.faulting .notReady) := by
  simp [telemetry, checkReady_of_not_ready hr, setFault_eq_faulting]

end

/-- Settles O19: the six reads are one read at six fields; where the block is Ready, only whether the field is written
decides. -/
theorem telemetryAnswersTheSnapshot : Obligations.TelemetryAnswersTheSnapshot := by
  refine ⟨⟨rfl, rfl, rfl, rfl, rfl, rfl⟩, fun s hs hr => ?_, fun s hs hr => ?_⟩
  · refine ⟨fun _ h => ?rssi, fun _ h => ?fe, fun _ h => ?lna, fun _ h => ?margin, fun _ h => ?freq, fun _ h => ?power,
      fun h => ?noRssi, fun h => ?noFe, fun h => ?noLna, fun h => ?noMargin, fun h => ?noFreq, fun h => ?noPower⟩
    case rssi | fe | lna | margin | freq | power => exact exec_of_ok hs (telemetry_of_some hr h _ _)
    case noRssi | noFe | noLna | noMargin | noFreq | noPower => exact exec_of_error hs (telemetry_of_none hr h _ _)
  · simp only [List.forall_mem_cons, List.not_mem_nil, false_implies, implies_true, and_true]
    refine ⟨?_, ?_, ?_, ?_, ?_, ?_⟩
    all_goals exact exec_of_error hs (telemetry_of_not_ready hr _ _ _)

end Sys2Proof.Machine


/-! PROOFS. The exceptions (spec/60_exceptions.md): the illegal opcode, the readiness check, the arguments out of range and
the modes in which GETACK has no phase. -/

namespace Sys2Proof.Machine

/-! ## An unlisted opcode (R63, R204) -/

/-- An opcode byte in a gap of the opcode map is illegal whatever follows it. -/
theorem decode_of_unlisted {op : Byte} (h : op.toNat = 0 ∨ (0x0C ≤ op.toNat ∧ op.toNat ≤ 0x0F) ∨ 0x16 ≤ op.toNat)
    (args : List Byte) : decode (op :: args) = .illegal op args := by
  rw [decode, decodeOp]
  split
  case h_18 => rfl
  all_goals omega

/-- An illegal frame is taken from the port and its fault recorded, and that is the whole step. -/
theorem step_of_illegal {s : State} {op : Byte} {rest : List Byte} (hs : s.fault = none)
    (hd : decode s.inbox = .illegal op rest) :
    step s = .next ((s.setInbox rest).faulting (.illegalCommand op)) := by
  have hf : fetch s = .illegal op (s.setInbox rest) := by rw [fetch, hd]
  simp [step, hf, illegalCommand, hs, setFault_eq_faulting]

/-- Settles O5: no gap of the opcode map decodes to a command, and the link state is not looked at. -/
theorem unlistedOpcodeRaisesIllegalCommand : Obligations.UnlistedOpcodeRaisesIllegalCommand := by
  intro s op args hs hin hop
  exact ⟨args, step_of_illegal hs (hin ▸ decode_of_unlisted hop args)⟩

/-! ## The readiness check (R203) -/

/-- What begins with the readiness check ends there in a block that is not Ready. -/
theorem checkReady_bind_of_not_ready {α : Type} {s : State} (hr : s.linkState ≠ .ready) (rest : Unit → Cmd α) :
    (checkReady >>= rest) s = .error .notReady (s.faulting .notReady) := by
  rw [bind_apply, checkReady_of_not_ready hr, setFault_eq_faulting]

/-- Every command but INIT begins with the readiness check. -/
theorem bodyOf_of_not_ready {s : State} {i : Instr} (hr : s.linkState ≠ .ready)
    (hi : ∀ id group freq, i ≠ .init id group freq) (c : Config) :
    bodyOf c i s = .error .notReady (s.faulting .notReady) := by
  cases i with
  | init id group freq => exact absurd rfl (hi id group freq)
  | _ => exact checkReady_bind_of_not_ready hr _

/-- The fault record does not hold `f`. -/
def State.Lacks (f : Fault) (s : State) : Prop := s.fault ≠ some f

theorem Keeps.presence_lacks (f : Fault) (c : Config) (v : Byte) (k : Nat) :
    Keeps (State.Lacks f) (Machine.presence c v k) := by
  intro s hs
  rw [presence_apply]
  split <;> exact hs

theorem Keeps.initFail_lacks (f : Fault) : Keeps (State.Lacks f) initFail := fun _ h => h

/-- INIT's writes raise the two frequency faults only (R206, R209). -/
theorem Keeps.initBringUp_lacks_notReady (c : Config) (group : Byte) (freq : Hz32) :
    Keeps (State.Lacks .notReady) (initBringUp c group freq) := by
  intro u hu
  rw [initBringUp_apply]
  split_ifs
  · simp [State.Lacks]
  · simp [State.Lacks]
  · exact hu

/-- INIT has no readiness check: its own faults are the id's and the frequency's. -/
theorem Keeps.initBody_lacks_notReady (c : Config) (id group : Byte) (freq : Hz32) :
    Keeps (State.Lacks .notReady) (initBody c id group freq) := by
  have hpresence := fun v => Keeps.presence_lacks .notReady c v (nonceRetries c)
  have hfail := Keeps.initFail_lacks .notReady
  exact Keeps.ite (Keeps.raise fun _ _ => by simp [State.Lacks])
    ((Keeps.update (f := State.setIdentity _ _) fun _ h => h).bind fun _ => (hpresence nonce1).bind fun _ => Keeps.ite
      ((hpresence nonce2).bind fun _ => Keeps.ite (Keeps.initBringUp_lacks_notReady c group freq) hfail) hfail)

/-- A block without a recorded fault runs every command (R201). -/
theorem exec_of_no_fault {s : State} (hs : s.fault = none) (i : Instr) :
    exec i s = .next (settle i (bodyOf Config.chip i s)) := by
  rw [exec_eq_command, command, hs]

/-- Settles O39: the readiness check is the first piece of every body but INIT's, and no piece of INIT's. -/
theorem onlyInitRunsBeforeReady : Obligations.OnlyInitRunsBeforeReady := by
  refine fun s i hs => ⟨fun hr hi => exec_of_error hs (bodyOf_of_not_ready hr hi _), ?_⟩
  rintro id group freq rfl
  have hexec := exec_of_no_fault hs (.init id group freq)
  have hlacks : s.Lacks .notReady := by simp [State.Lacks, hs]
  exact ⟨_, hexec, Keeps.command (Keeps.initBody_lacks_notReady Config.chip id group freq) (fun _ _ h => h) hlacks hexec⟩

/-! ## An argument out of range (R205) -/

/-- In a Ready block a buffer below 2 ends what begins with the readiness check and the buffer's. -/
theorem checkLen_bind_of_lt {α : Type} {s : State} {op len : Byte} (hr : s.linkState = .ready) (hl : len.toNat < 2)
    (rest : Unit → Cmd α) :
    (checkReady >>= fun _ => checkLen op len >>= rest) s = .error (.badArgument op) (s.faulting (.badArgument op)) := by
  simp [checkReady_of_ready hr, checkLen_of_lt hl, setFault_eq_faulting]

theorem initBody_of_id_out_of_range {id : Byte} (h : 63 < id.toNat) (c : Config) (group : Byte) (freq : Hz32)
    (s : State) : initBody c id group freq s = .error (.badArgument 0x01) (s.faulting (.badArgument 0x01)) := by
  simp [initBody, h, setFault_eq_faulting]

theorem sendBody_of_long_payload {s : State} {payload : List Byte} (hr : s.linkState = .ready)
    (h : maxPayload < payload.length) (c : Config) (flags : BitVec 2) (destId : BitVec 6) :
    sendBody c flags destId payload s = .error (.badArgument 0x02) (s.faulting (.badArgument 0x02)) := by
  simp [sendBody, checkReady_of_ready hr, h, setFault_eq_faulting]

/-- In a Ready block an ill-formed command ends at its argument check; the other twelve commands are well-formed. -/
theorem bodyOf_of_ill_formed {s : State} {i : Instr} (hr : s.linkState = .ready) (hw : i.wellFormed = false)
    (c : Config) : bodyOf c i s = .error (.badArgument i.opcode) (s.faulting (.badArgument i.opcode)) := by
  cases i with
  | init id group freq => exact initBody_of_id_out_of_range (by simpa [Instr.wellFormed] using hw) c group freq s
  | send flags destId payload =>
    exact sendBody_of_long_payload hr (by simpa [Instr.wellFormed, maxPayload] using hw) c flags destId
  | receive len | getAck len | readAck len =>
    exact checkLen_bind_of_lt hr (by simpa [Instr.wellFormed] using hw) _
  | _ => cases hw

/-- Settles O40: the argument check comes right after the readiness check, and INIT has only the argument check. -/
theorem outOfRangeArgumentRaisesBadArgument : Obligations.OutOfRangeArgumentRaisesBadArgument := by
  refine fun s i hs hw => ⟨?_, fun hr hi => exec_of_error hs (bodyOf_of_not_ready hr hi _)⟩
  rintro (hr | ⟨id, group, freq, rfl⟩)
  · exact exec_of_error hs (bodyOf_of_ill_formed hr hw _)
  · exact exec_of_error hs (initBody_of_id_out_of_range (by simpa [Instr.wellFormed] using hw) _ group freq s)

/-! ## GETACK without a phase (R207) -/

theorem getAckBody_of_no_phase {s : State} {len : Byte} {m : Mode} (hr : s.linkState = .ready) (hl : 2 ≤ len.toNat)
    (hm : s.mode = some m) (h : m = .sleep ∨ m = .standby ∨ m = .freqSynth) (c : Config) :
    getAckBody c len s = .error (.noAckWait m) (s.faulting (.noAckWait m)) := by
  rcases h with rfl | rfl | rfl <;>
    simp [getAckBody, checkReady_of_ready hr, checkLen_of_le hl, demand_of_some hm, setFault_eq_faulting]

/-- Settles O28: both checks pass and the recorded mode selects the fault. -/
theorem getAckOutsideItsPhasesRaisesNoAckWait : Obligations.GetAckOutsideItsPhasesRaisesNoAckWait := by
  intro s len m hs hr hl hm h
  exact exec_of_error hs (getAckBody_of_no_phase hr hl hm h _)

end Sys2Proof.Machine


/-! PROOFS. The command frames (spec/30_encoding.md section 1): the decoder and the encoder agree. -/

namespace Sys2Proof

/-! ## Arguments in bytes and bits (R60, R61) -/

/-- The four bytes of INIT's frequency, most significant first, join to the frequency. -/
theorem freqBytes_append (freq : Hz32) :
    freq.extractLsb' 24 8 ++ freq.extractLsb' 16 8 ++ freq.extractLsb' 8 8 ++ freq.extractLsb' 0 8 = freq := by
  have high : freq.extractLsb' 24 8 ++ freq.extractLsb' 16 8 = freq.extractLsb' 16 16 :=
    BitVec.extractLsb'_append_extractLsb'_eq_extractLsb' rfl
  have mid : freq.extractLsb' 16 16 ++ freq.extractLsb' 8 8 = freq.extractLsb' 8 24 :=
    BitVec.extractLsb'_append_extractLsb'_eq_extractLsb' rfl
  rw [high, mid]
  exact (BitVec.extractLsb'_append_extractLsb'_eq_extractLsb' rfl).trans BitVec.extractLsb'_eq_self

/-- Each byte of a frequency joined from four comes back out of its place. -/
theorem freqBytes_of_append (f3 f2 f1 f0 : Byte) :
    (f3 ++ f2 ++ f1 ++ f0).extractLsb' 24 8 = f3 ∧ (f3 ++ f2 ++ f1 ++ f0).extractLsb' 16 8 = f2 ∧
      (f3 ++ f2 ++ f1 ++ f0).extractLsb' 8 8 = f1 ∧ (f3 ++ f2 ++ f1 ++ f0).extractLsb' 0 8 = f0 := by
  have dropLast : ∀ {w : Nat} (hi : BitVec w) (lo : Byte) (k : Nat),
      (hi ++ lo).extractLsb' (k + 8) 8 = hi.extractLsb' k 8 :=
    fun _ _ _ => BitVec.extractLsb'_append_eq_of_le (by omega)
  refine ⟨?_, ?_, ?_, BitVec.extractLsb'_append_eq_right⟩
  · exact (dropLast _ _ 16).trans ((dropLast _ _ 8).trans BitVec.extractLsb'_append_eq_left)
  · exact (dropLast _ _ 8).trans ((dropLast _ _ 0).trans BitVec.extractLsb'_append_eq_right)
  · exact (dropLast _ _ 0).trans BitVec.extractLsb'_append_eq_right

/-- The `len` byte of an encodable payload is its length. -/
theorem lenByte_toNat {payload : List Byte} (h : payload.length ≤ 255) :
    (BitVec.ofNat 8 payload.length).toNat = payload.length :=
  Nat.mod_eq_of_lt (by omega)

/-! ## Decoding a frame -/

theorem decodeSend_argBytes (flags : BitVec 2) (destId : BitVec 6) {payload : List Byte} (h : payload.length ≤ 255)
    (rest : List Byte) :
    decodeSend ((Instr.send flags destId payload).argBytes ++ rest) = .command (.send flags destId payload) rest := by
  have high : (flags ++ destId).extractLsb' 6 2 = flags := BitVec.extractLsb'_append_eq_left
  have low : (flags ++ destId).extractLsb' 0 6 = destId := BitVec.extractLsb'_append_eq_right
  simp [decodeSend, Instr.argBytes, lenByte_toNat h, high, low]

/-- Settles O1: only INIT and SEND cut an argument up, and their pieces join to the argument again. -/
theorem decodeOfEncodeIsTheCommand : Obligations.DecodeOfEncodeIsTheCommand := by
  intro i rest hi
  cases i with
  | init id group freq =>
    rw [← congrArg (fun f => Decoded.command (.init id group f) rest) (freqBytes_append freq)]
    rfl
  | send flags destId payload => exact decodeSend_argBytes flags destId (by simpa [Instr.encodable] using hi) rest
  | _ => rfl

/-! ## The bytes of a decoded command -/

/-- What a decoder of the arguments of an opcode owes: any command it answers has that opcode and just these bytes. -/
def IsFrameOf (op : Byte) (args : List Byte) (d : Decoded) : Prop :=
  ∀ i rest, d = .command i rest → op = i.opcode ∧ args = i.argBytes ++ rest ∧ i.encodable = true

theorem isFrameOf_incomplete (op : Byte) (args : List Byte) : IsFrameOf op args .incomplete := fun _ _ h => by cases h

theorem isFrameOf_illegal (op op' : Byte) (args rest : List Byte) : IsFrameOf op args (.illegal op' rest) :=
  fun _ _ h => by cases h

theorem isFrameOf_command {op : Byte} {args rest : List Byte} {i : Instr} (ho : op = i.opcode)
    (ha : args = i.argBytes ++ rest) (he : i.encodable = true) : IsFrameOf op args (.command i rest) := by
  rintro _ _ ⟨⟩
  exact ⟨ho, ha, he⟩

theorem isFrameOf_decodeOne {op : Byte} {f : Byte → Instr}
    (hf : ∀ b, op = (f b).opcode ∧ (f b).argBytes = [b] ∧ (f b).encodable = true) (args : List Byte) :
    IsFrameOf op args (decodeOne f args) := by
  cases args with
  | nil => exact isFrameOf_incomplete _ _
  | cons b rest =>
    obtain ⟨ho, ha, he⟩ := hf b
    exact isFrameOf_command ho (by rw [ha]; rfl) he

theorem isFrameOf_decodeTwo (args : List Byte) : IsFrameOf 0x07 args (decodeTwo .adjustPow args) := by
  match args with
  | [] | [_] => exact isFrameOf_incomplete _ _
  | margin :: target :: rest => exact isFrameOf_command rfl rfl rfl

theorem isFrameOf_decodeInit (args : List Byte) : IsFrameOf 0x01 args (decodeInit args) := by
  unfold decodeInit
  split
  case h_1 id group f3 f2 f1 f0 rest =>
    obtain ⟨h3, h2, h1, h0⟩ := freqBytes_of_append f3 f2 f1 f0
    exact isFrameOf_command rfl (by simp [Instr.argBytes, h3, h2, h1, h0]) rfl
  case h_2 => exact isFrameOf_incomplete _ _

theorem isFrameOf_decodeSend (args : List Byte) : IsFrameOf 0x02 args (decodeSend args) := by
  unfold decodeSend
  split
  case h_1 header len tail =>
    split
    case isTrue => exact isFrameOf_incomplete _ _
    case isFalse hlen =>
      have taken : (tail.take len.toNat).length = len.toNat :=
        le_antisymm (List.length_take_le _ _) (not_lt.1 hlen)
      have join : header.extractLsb' 6 2 ++ header.extractLsb' 0 6 = header :=
        (BitVec.extractLsb'_append_extractLsb'_eq_extractLsb' rfl).trans BitVec.extractLsb'_eq_self
      refine isFrameOf_command rfl ?_ ?_
      · simp only [Instr.argBytes, taken, join, BitVec.ofNat_toNat, BitVec.setWidth_eq, List.cons_append,
          List.take_append_drop]
      · have := len.isLt
        simp only [Instr.encodable, taken, decide_eq_true_eq]
        omega
  case h_2 => exact isFrameOf_incomplete _ _

/-- Every row of the opcode map decodes its own frame only. -/
theorem isFrameOf_decodeOp (op : Byte) (args : List Byte) : IsFrameOf op args (decodeOp op args) := by
  unfold decodeOp
  split
  case h_18 => exact isFrameOf_illegal _ _ _ _
  all_goals
    rename_i hop
    replace hop := congrArg (BitVec.ofNat 8) hop
    rw [BitVec.ofNat_toNat, BitVec.setWidth_eq] at hop
    subst hop
  case h_1 => exact isFrameOf_decodeInit _
  case h_2 => exact isFrameOf_decodeSend _
  case h_7 => exact isFrameOf_decodeTwo _
  case h_3 | h_4 | h_5 | h_6 => exact isFrameOf_decodeOne (by exact fun _ => ⟨rfl, rfl, rfl⟩) _
  all_goals exact isFrameOf_command rfl rfl rfl

/-- Settles O2: the opcode selects one decoder of arguments, and that one takes its own frame only. -/
theorem decodedBytesAreTheCommandsFrame : Obligations.DecodedBytesAreTheCommandsFrame := by
  intro bytes rest i h
  cases bytes with
  | nil => cases h
  | cons op args =>
    obtain ⟨ho, ha, he⟩ := isFrameOf_decodeOp op args i rest h
    exact ⟨by rw [ho, ha]; rfl, he⟩

/-! ## A frame cut short -/

/-- A listed opcode is never an illegal command, whatever bytes follow it. -/
theorem decode_opcode_ne_illegal (i : Instr) (args rest : List Byte) (op : Byte) :
    decode (i.opcode :: args) ≠ .illegal op rest := by
  cases i with
  | init _ _ _ =>
    change decodeInit args ≠ _
    unfold decodeInit
    split <;> exact Decoded.noConfusion
  | send _ _ _ =>
    change decodeSend args ≠ _
    unfold decodeSend
    split
    · split <;> exact Decoded.noConfusion
    · exact Decoded.noConfusion
  | adjustPow _ _ =>
    change decodeTwo _ args ≠ _
    unfold decodeTwo
    split <;> exact Decoded.noConfusion
  | receive _ | getAck _ | readAck _ | txPower _ => cases args <;> exact Decoded.noConfusion
  | _ => exact Decoded.noConfusion

/-- Settles O3: were a frame cut short a command's frame, the whole one would decode to that command with bytes left
over, and it decodes to its own command with none. -/
theorem shortFrameIsNotACommand : Obligations.ShortFrameIsNotACommand := by
  intro i k hi hk
  cases h : decode ((encode i).take k) with
  | incomplete => rfl
  | illegal op rest =>
    cases k with
    | zero => cases h
    | succ k => exact absurd h (decode_opcode_ne_illegal i _ rest op)
  | command j rest =>
    obtain ⟨hbytes, hj⟩ := decodedBytesAreTheCommandsFrame _ _ _ h
    have whole : encode i = encode j ++ (rest ++ (encode i).drop k) := by
      rw [← List.append_assoc, ← hbytes, List.take_append_drop]
    have hown := decodeOfEncodeIsTheCommand i [] hi
    rw [List.append_nil, whole, decodeOfEncodeIsTheCommand j _ hj] at hown
    injection hown with _ hnil
    have := List.drop_eq_nil_iff.1 (List.append_eq_nil_iff.1 hnil).2
    omega

/-- Settles O4: one frame for each shape of arguments, run through the decoder. -/
theorem handWrittenFramesDecode : Obligations.HandWrittenFramesDecode := by
  unfold Obligations.HandWrittenFramesDecode
  decide

end Sys2Proof


/-! PROOFS. INIT (spec/44_link_protocol.md): the presence check's three outcomes, and the writes after it. -/

namespace Sys2Proof.Machine

/-! ## The three outcomes of the presence check (R170, R171) -/

section
variable {c : Config} {s : State} {id : Byte} {j k : Nat} (hid : id.toNat ≤ 63) (group : Byte) (freq : Hz32)
include hid

/-- INIT with an id in range runs the two checks from the state with the identity written. -/
theorem initBody_of_id_in_range : initBody c id group freq s =
    (presence c nonce1 (nonceRetries c) >>= fun ok1 =>
      if ok1 then presence c nonce2 (nonceRetries c) >>= fun ok2 =>
        if ok2 then initBringUp c group freq else initFail
      else initFail) (s.withIdentity c id group) := by
  rw [initBody, if_neg (by omega)]
  rfl

theorem initBody_of_first_absent (h1 : firstMatch nonce1 s 0 (nonceRetries c) = none) :
    initBody c id group freq s = .ok .failure
      (((s.withIdentity c id group).afterAttempts c nonce1 (nonceRetries c)).setLink .failed) := by
  simp [initBody_of_id_in_range hid, presence_apply, firstMatch_withIdentity, h1, initFail]

theorem initBody_of_second_absent (h1 : firstMatch nonce1 s 0 (nonceRetries c) = some j)
    (h2 : firstMatch nonce2 s (j + 1) (nonceRetries c) = none) :
    initBody c id group freq s = .ok .failure
      ((((s.withIdentity c id group).afterAttempts c nonce1 (j + 1)).afterAttempts c nonce2
        (nonceRetries c)).setLink .failed) := by
  simp [initBody_of_id_in_range hid, presence_apply, firstMatch_withIdentity, firstMatch_afterAttempts, h1, h2, initFail]

theorem initBody_of_present (h1 : firstMatch nonce1 s 0 (nonceRetries c) = some j)
    (h2 : firstMatch nonce2 s (j + 1) (nonceRetries c) = some k) :
    initBody c id group freq s = initBringUp c group freq
      (((s.withIdentity c id group).afterAttempts c nonce1 (j + 1)).afterAttempts c nonce2 (k + 1)) := by
  simp [initBody_of_id_in_range hid, presence_apply, firstMatch_withIdentity, firstMatch_afterAttempts, h1, h2]

end

/-! ## INIT's outcomes -/

/-- Settles O35: both checks pass, neither frequency fault applies, and the last writes follow. -/
theorem initSucceedsAfterBothSentinels : Obligations.InitSucceedsAfterBothSentinels := by
  intro s id group freq j k hs hid h1 h2 hpos hlow
  have hne : freq ≠ 0 := fun h => by simp [h] at hpos
  have hlt : ¬ freqCeilingHz ≤ scaledHz freq.toNat := not_le.2 hlow
  have hbody := initBody_of_present hid group freq h1 h2
  rw [initBringUp_apply, if_neg hne, if_neg hlt] at hbody
  exact exec_of_ok hs hbody

/-- Settles O37: the frequency is looked at after the table and the Sleep write, and its faults roll nothing back. -/
theorem initFrequencyFaultComesAfterSleep : Obligations.InitFrequencyFaultComesAfterSleep := by
  rintro s u id group freq j k hs hid h1 h2 rfl
  have hbody := initBody_of_present hid group freq h1 h2
  rw [initBringUp_apply] at hbody
  refine ⟨fun hzero => ?_, fun hpos hhigh => ?_⟩
  · rw [if_pos hzero] at hbody
    exact exec_of_error hs hbody
  · have hne : freq ≠ 0 := fun h => by simp [h] at hpos
    have hge : freqCeilingHz ≤ scaledHz freq.toNat := hhigh
    rw [if_neg hne, if_pos hge] at hbody
    exact exec_of_error hs hbody

/-- With both sentinels matched INIT records a fault or enters its success. -/
theorem exec_init_of_present {s t : State} {id group : Byte} {freq : Hz32} {j k : Nat} (hs : s.fault = none)
    (hid : id.toNat ≤ 63) (h1 : firstMatch nonce1 s 0 (nonceRetries Config.chip) = some j)
    (h2 : firstMatch nonce2 s (j + 1) (nonceRetries Config.chip) = some k)
    (h : exec (.init id group freq) s = .next t) :
    t.fault.isSome ∨ t.history.getLast? = some (.returned (.init id group freq) .success) := by
  have hbody := initBody_of_present hid group freq h1 h2
  rw [initBringUp_apply] at hbody
  split_ifs at hbody
  · obtain rfl := Host.Outcome.next.inj (h.symm.trans (exec_of_error hs hbody))
    exact .inl rfl
  · obtain rfl := Host.Outcome.next.inj (h.symm.trans (exec_of_error hs hbody))
    exact .inl rfl
  · obtain rfl := Host.Outcome.next.inj (h.symm.trans (exec_of_ok hs hbody))
    exact .inr List.getLast?_concat

/-- Settles O36: a sentinel that never reads back is a failure, and a block in which both read back never answers one. -/
theorem initFailsWhenOneSentinelNeverReadsBack : Obligations.InitFailsWhenOneSentinelNeverReadsBack := by
  intro s id group freq hs hid
  have first := fun h1 =>
    exec_of_ok (i := .init id group freq) hs (initBody_of_first_absent (s := s) hid group freq h1)
  have second := fun j h1 h2 =>
    exec_of_ok (i := .init id group freq) hs (initBody_of_second_absent (s := s) (j := j) hid group freq h1 h2)
  refine ⟨first, second, fun t ht => ⟨fun ⟨_, hfault, hlast⟩ => ?_, ?_⟩⟩
  · cases h1 : firstMatch 0xAA s 0 (nonceRetries Config.chip) with
    | none => exact .inl rfl
    | some j =>
      cases h2 : firstMatch 0x55 s (j + 1) (nonceRetries Config.chip) with
      | none => exact .inr ⟨j, rfl, h2⟩
      | some k =>
        rcases exec_init_of_present hs hid h1 h2 ht with hsome | hsuccess
        · simp [hfault] at hsome
        · simp [hlast] at hsuccess
  · rintro (h1 | ⟨j, h1, h2⟩)
    · obtain rfl := Host.Outcome.next.inj (ht.symm.trans (first h1))
      exact ⟨rfl, hs, List.getLast?_concat⟩
    · obtain rfl := Host.Outcome.next.inj (ht.symm.trans (second j h1 h2))
      exact ⟨rfl, hs, List.getLast?_concat⟩

end Sys2Proof.Machine


/-! PROOFS. Steps, reset and the invariant of the block (spec/10_state.md section 2, spec/70_reset_and_hazards.md): what one
step can do, and that each write of a command keeps the invariant. -/

namespace Sys2Proof.Machine

/-! ## One step (R30, R60) -/

theorem step_of_command {s : State} {i : Instr} {rest : List Byte} (h : decode s.inbox = .command i rest) :
    step s = exec i (s.setInbox rest) := by
  have hf : fetch s = .command i (s.setInbox rest) := by rw [fetch, h]
  rw [step, hf]

theorem step_of_incomplete {s : State} (h : decode s.inbox = .incomplete) : step s = .next s := by
  have hf : fetch s = .idle := by rw [fetch, h]
  rw [step, hf]

/-- What a step that has a next state does: it waits, it takes an illegal frame, or it runs the command it takes. -/
theorem step_next {s t : State} (h : step s = .next t) :
    t = s ∨ (s.fault = none ∧ ∃ op rest, t = (s.setInbox rest).faulting (.illegalCommand op)) ∨
      ∃ i rest, exec i (s.setInbox rest) = .next t := by
  cases hd : decode s.inbox with
  | incomplete =>
    rw [step_of_incomplete hd] at h
    exact .inl (Host.Outcome.next.inj h).symm
  | illegal op rest =>
    cases hs : s.fault with
    | none =>
      rw [step_of_illegal hs hd] at h
      exact .inr (.inl ⟨rfl, op, rest, (Host.Outcome.next.inj h).symm⟩)
    | some f =>
      have hf : fetch s = .illegal op (s.setInbox rest) := by rw [fetch, hd]
      simp [step, hf, illegalCommand, hs] at h
  | command i rest => exact .inr (.inr ⟨i, rest, step_of_command hd ▸ h⟩)

/-- Settles O6: the port's frame is taken and its command is the step. -/
theorem stepRunsTheDecodedCommand : Obligations.StepRunsTheDecodedCommand :=
  fun _ _ _ h => step_of_command h

/-- Settles O7: a port without a complete frame delivers nothing to the step. -/
theorem incompleteFrameLeavesTheBlockWaiting : Obligations.IncompleteFrameLeavesTheBlockWaiting :=
  fun _ h => step_of_incomplete h

/-- Settles O8: reset's fields as R230 and R36 give them, and an empty port. -/
theorem resetLeavesTheBlockUninitAndUnwritten : Obligations.ResetLeavesTheBlockUninitAndUnwritten :=
  ⟨rfl, rfl, rfl, rfl, rfl, rfl, rfl, rfl, rfl, rfl, rfl, rfl, rfl, rfl, step_of_incomplete rfl⟩

theorem exec_of_fault {s : State} {f : Fault} (hs : s.fault = some f) (i : Instr) : exec i s = .fault f :=
  (exec_eq_command i s).trans (command_of_fault hs)

/-- Settles O41: only the idle step has a next state in a faulted block. -/
theorem faultedBlockExecutesNoCommand : Obligations.FaultedBlockExecutesNoCommand := by
  refine fun s f hs => ⟨exec_of_fault hs, fun t ht => ?_⟩
  rcases step_next ht with rfl | ⟨hn, _⟩ | ⟨i, rest, hexec⟩
  · rfl
  · rw [hs] at hn
    cases hn
  · rw [exec_of_fault (s := s.setInbox rest) hs i] at hexec
    cases hexec

/-! ## What each write does to the invariant (R26, R27, R28, R136, R202) -/

variable {c : Config} {s : State}

theorem State.Inv.setFault (h : s.Inv c) (f : Fault) : (s.setFault f).Inv c := { h with }

theorem State.Inv.log (h : s.Inv c) (es : List Event) : (s.log es).Inv c := { h with }

theorem State.Inv.setInbox (h : s.Inv c) (bytes : List Byte) : (s.setInbox bytes).Inv c := { h with }

theorem State.Inv.transparent : Transparent (State.Inv c) where
  fault f _ h := h.setFault f
  log es _ h := h.log es
  answer _ h := { h with }
  packet _ h := { h with }

theorem State.Inv.setMode (h : s.Inv c) {m : Mode} (hm : m ≠ .standby) : (s.setMode m).Inv c :=
  { h with
    readyWritten := fun hr => ⟨rfl, (h.readyWritten hr).2⟩
    notStandby := fun he => hm (Option.some.inj he) }

theorem State.Inv.setFrequency (h : s.Inv c) {hz : Nat} (lo : freqFloorHz ≤ hz) (hi : hz < freqCeilingHz) :
    (s.setFrequency (BitVec.ofNat 32 hz)).Inv c :=
  { h with
    readyWritten := fun hr => by
      obtain ⟨hmode, hid, hparity, _, hrest⟩ := h.readyWritten hr
      exact ⟨hmode, hid, hparity, rfl, hrest⟩
    frequencyInRange := fun f hf => by
      have hnat : (BitVec.ofNat 32 hz).toNat = hz := Nat.mod_eq_of_lt (by unfold freqCeilingHz at hi; omega)
      rw [← Option.some.inj hf, hnat]
      exact ⟨lo, hi⟩ }

theorem State.Inv.setPower (h : s.Inv c) {p : Int} (lo : txLo c ≤ p) (hi : p ≤ txHi c) : (s.setPower p).Inv c :=
  { h with
    readyWritten := fun hr => by
      obtain ⟨hmode, hid, hparity, hfreq, _, hsync⟩ := h.readyWritten hr
      exact ⟨hmode, hid, hparity, hfreq, rfl, hsync⟩
    powerInRange := fun q hq => Option.some.inj hq ▸ ⟨lo, hi⟩ }

theorem State.Inv.setIdentity (h : s.Inv c) (id : BitVec 6) (p : BitVec 2) : (s.setIdentity id p).Inv c :=
  { h with
    readyWritten := fun hr => by
      obtain ⟨hmode, _, _, hrest⟩ := h.readyWritten hr
      exact ⟨hmode, rfl, rfl, hrest⟩ }

theorem State.Inv.setLastSync (h : s.Inv c) (b : Bool) : (s.setLastSync b).Inv c :=
  { h with
    readyWritten := fun hr => by
      obtain ⟨hmode, hid, hparity, hfreq, hpower, _⟩ := h.readyWritten hr
      exact ⟨hmode, hid, hparity, hfreq, hpower, rfl⟩ }

/-- Every gain of the table is one of R28's six. -/
theorem lnaGain_mem (c : Config) (b : Byte) : lnaGain c b ∈ [0, 6, 12, 24, 36, 48] := by
  have table : ∀ code : BitVec 3, lnaTable code ∈ [0, 6, 12, 24, 36, 48] := by decide
  exact table _

theorem feSignOf_eq (c : Config) : feSignOf c = -1 ∨ feSignOf c = 1 := by
  unfold feSignOf
  cases c.feSign <;> simp

/-- The frequency error is a number of AFC steps, of either sign (R132, R136). -/
theorem afcToHz_eq_steps (c : Config) (w : BitVec 16) :
    ∃ k : Int, afcToHz c w = 61 * k ∧ -32768 ≤ k ∧ k ≤ 32768 := by
  have lo : -2 ^ 15 ≤ w.toInt := BitVec.le_toInt w
  have hi : w.toInt < 2 ^ 15 := BitVec.toInt_lt
  refine ⟨feSignOf c * w.toInt, by rw [afcToHz, afcLsbHz, sext16]; ring, ?_⟩
  rcases feSignOf_eq c with h | h <;> rw [h] <;> omega

theorem State.Inv.setSyncMetrics (h : s.Inv c) (r g : Byte) (w : BitVec 16) :
    (s.setSyncMetrics r (lnaGain c g) (afcToHz c w)).Inv c :=
  { h with
    syncMetricsInRange := by
      refine ⟨fun x hx => Option.some.inj hx ▸ lnaGain_mem c g, fun e he => ?_⟩
      rw [← Option.some.inj he]
      exact afcToHz_eq_steps c w
    metricsTogether := by
      obtain ⟨_, _, hpayload, _⟩ := h.metricsTogether
      exact ⟨by simp, by simp, hpayload, fun _ => rfl⟩ }

/-- The average of two noise bytes is a byte, and what is taken from it and divided is no larger (R134). -/
theorem snrOf_le (c : Config) (n1 n2 r : Byte) : snrOf c n1 n2 r ≤ 255 := by
  have h1 := n1.isLt
  have h2 := n2.isLt
  have := Nat.div_le_self (noiseOf n1 n2 - r.toNat) (rssiDivisor c)
  unfold snrOf noiseOf at *
  omega

theorem State.Inv.setPayloadMetrics (h : s.Inv c) (n1 n2 : Byte) {r : Byte} (hr : s.rssiRaw = some r) :
    (s.setPayloadMetrics (snrOf c n1 n2 r) (linkMargin (snrOf c n1 n2 r))).Inv c :=
  { h with
    payloadMetricsInRange :=
      ⟨fun _ hn => Option.some.inj hn ▸ snrOf_le c n1 n2 r, fun _ hm => ⟨_, rfl, (Option.some.inj hm).symm⟩⟩
    metricsTogether := by
      obtain ⟨hgain, herror, _, _⟩ := h.metricsTogether
      exact ⟨hgain, herror, by simp, fun _ => by simp [hr]⟩ }

/-- Every write of a command other than INIT keeps the invariant. -/
theorem State.Inv.keepsAll : KeepsAll (State.Inv c) c where
  transparent := State.Inv.transparent
  mode _ hm _ h := h.setMode hm
  frequency _ lo hi _ h := h.setFrequency lo hi
  power _ _ lo hi h := h.setPower lo hi
  sync r g w _ h := h.setSyncMetrics r g w
  lastSync b _ h := h.setLastSync b
  payload n1 n2 _ _ hr h := h.setPayloadMetrics n1 n2 hr

/-! ## INIT -/

/-- The invariant with the identity written: what INIT's first write leaves and its attempts keep (R170). -/
structure State.InvIdentified (c : Config) (s : State) : Prop where
  inv : s.Inv c
  nodeId : s.nodeId.isSome
  groupParity : s.groupParity.isSome

theorem State.Inv.withIdentity (h : s.Inv c) (id group : Byte) : (s.withIdentity c id group).InvIdentified c :=
  ⟨h.setIdentity (lowSix id) (groupParityOf c group), rfl, rfl⟩

theorem State.InvIdentified.afterAttempts (h : s.InvIdentified c) (v : Byte) (k : Nat) :
    (s.afterAttempts c v k).InvIdentified c :=
  { h with inv := { h.inv with } }

theorem State.Inv.afterTable (h : s.Inv c) : (s.afterTable c).Inv c :=
  { h.setMode (m := .sleep) (by decide) with }

theorem State.Inv.afterFrequency (h : s.Inv c) {hz : Nat} (lo : freqFloorHz ≤ hz) (hi : hz < freqCeilingHz) :
    (s.afterFrequency c hz).Inv c :=
  { h.setFrequency lo hi with }

/-- INIT's last writes leave every field of a Ready block written, the metrics unwritten together, and the power in range
(R36, R170, R202). -/
theorem State.Inv.linkUp (h : s.Inv c) (hm : s.mode.isSome) (hid : s.nodeId.isSome) (hp : s.groupParity.isSome)
    (hf : s.currentFrequency.isSome) (group : Byte) : (s.linkUp c group).Inv c where
  readyWritten _ := ⟨hm, hid, hp, hf, rfl, rfl⟩
  frequencyInRange := h.frequencyInRange
  powerInRange _ hq := Option.some.inj hq ▸ clamp_mem_range (txLo_le_txHi c) c.txPowerInit
  syncMetricsInRange := ⟨nofun, nofun⟩
  payloadMetricsInRange := ⟨nofun, nofun⟩
  metricsTogether := ⟨Iff.rfl, Iff.rfl, Iff.rfl, id⟩
  notStandby := h.notStandby

/-- A failed INIT is not Ready, so it owes nothing of what R202 asks. -/
theorem State.Inv.setLink_failed (h : s.Inv c) : (s.setLink .failed).Inv c := { h with readyWritten := nofun }

theorem initBringUp_inv (h : s.InvIdentified c) (group : Byte) (freq : Hz32) :
    (endState (initBringUp c group freq s)).Inv c := by
  rw [initBringUp_apply]
  split_ifs with hzero hhigh
  · exact h.inv.afterTable.setFault _
  · exact h.inv.afterTable.setFault _
  · have hne : freq.toNat ≠ 0 := fun he => hzero (BitVec.eq_of_toNat_eq he)
    exact (h.inv.afterTable.afterFrequency (freqFloorHz_le_scaledHz hne) (not_le.1 hhigh)).linkUp rfl h.nodeId
      h.groupParity rfl group

/-- INIT keeps the invariant however its presence check and its frequency turn out. -/
theorem Keeps.initBody_inv (id group : Byte) (freq : Hz32) : Keeps (State.Inv c) (initBody c id group freq) := by
  intro s h
  by_cases hid : id.toNat ≤ 63
  · have identified := h.withIdentity id group
    cases h1 : firstMatch nonce1 s 0 (nonceRetries c) with
    | none =>
      rw [initBody_of_first_absent hid group freq h1]
      exact (identified.afterAttempts _ _).inv.setLink_failed
    | some j =>
      cases h2 : firstMatch nonce2 s (j + 1) (nonceRetries c) with
      | none =>
        rw [initBody_of_second_absent hid group freq h1 h2]
        exact ((identified.afterAttempts _ _).afterAttempts _ _).inv.setLink_failed
      | some k =>
        rw [initBody_of_present hid group freq h1 h2]
        exact initBringUp_inv ((identified.afterAttempts _ _).afterAttempts _ _) group freq
  · rw [initBody_of_id_out_of_range (not_le.1 hid)]
    exact h.setFault _

/-! ## The invariant of the block -/

theorem Keeps.bodyOf_inv (i : Instr) : Keeps (State.Inv c) (Machine.bodyOf c i) := by
  cases i with
  | init id group freq => exact Keeps.initBody_inv id group freq
  | _ => exact Keeps.bodyOf State.Inv.keepsAll (by simp [Instr.opcode])

/-- Every command keeps the invariant, whether it returns or faults. -/
theorem exec_keeps_inv {s t : State} {i : Instr} (hs : s.Inv Config.chip) (h : exec i s = .next t) :
    t.Inv Config.chip :=
  (Keeps.bodyOf_inv i).command (fun r _ hu => hu.log [.returned i r]) hs (exec_eq_command i s ▸ h)

/-- Settles O43: the frame taken from the port is none of the invariant's fields, and every command keeps it. -/
theorem stepKeepsTheInvariant : Obligations.StepKeepsTheInvariant := by
  intro s t hs h
  rcases step_next h with rfl | ⟨_, op, rest, rfl⟩ | ⟨i, rest, hexec⟩
  · exact hs
  · exact (hs.setInbox rest).setFault _
  · exact exec_keeps_inv (hs.setInbox rest) hexec

/-- Settles O44: at reset every field the invariant bounds is unwritten. -/
theorem resetMeetsTheInvariant : Obligations.ResetMeetsTheInvariant where
  readyWritten := nofun
  frequencyInRange := nofun
  powerInRange := nofun
  syncMetricsInRange := ⟨nofun, nofun⟩
  payloadMetricsInRange := ⟨nofun, nofun⟩
  metricsTogether := ⟨Iff.rfl, Iff.rfl, Iff.rfl, id⟩
  notStandby := nofun

end Sys2Proof.Machine


/-! PROOFS. The Mode Controller (spec/40_mode_controller.md), SEND (spec/44_link_protocol.md), the Adaptation Engine
(spec/43_adaptation.md) and the values of the Link Quality Estimator (spec/42_link_quality.md). -/

namespace Sys2Proof.Machine

variable {c : Config} {s : State}

/-- A command other than INIT in a block that is not Ready changes nothing but the fault record (R203). -/
theorem exec_of_not_ready {i : Instr} (hs : s.fault = none) (hr : s.linkState ≠ .ready)
    (hi : ∀ id group freq, i ≠ .init id group freq := by intro _ _ _ h; cases h) :
    exec i s = .next (s.faulting .notReady) :=
  exec_of_error hs (bodyOf_of_not_ready hr hi _)

/-! ## Mode Controller (R100, R101, R103) -/

theorem sleepBody_of_ready (hr : s.linkState = .ready) (c : Config) :
    sleepBody c s = .ok .nothing (s.afterSetMode c .sleep) := by
  simp [sleepBody, checkReady_of_ready hr]

theorem modeReadyBody_of_ready (hr : s.linkState = .ready) (c : Config) :
    modeReadyBody c s = .ok (.flag (modeReadyFlag c (s.answer 0))) (s.afterRead c .irqFlags1) := by
  simp [modeReadyBody, checkReady_of_ready hr]

/-- Settles O9: after the readiness check SLEEP is one setMode. -/
theorem sleepRecordsSleepAndKeepsTheRest : Obligations.SleepRecordsSleepAndKeepsTheRest :=
  ⟨rfl, fun _ hs => ⟨fun hr => exec_of_ok hs (sleepBody_of_ready hr _),
    fun hr => exec_of_not_ready hs hr⟩⟩

/-- Settles O10: after the readiness check MODEREADY is one read, and the flag is a bit of its answer. -/
theorem modeReadyAnswersTheFlag : Obligations.ModeReadyAnswersTheFlag :=
  ⟨rfl, fun _ hs => ⟨fun hr => exec_of_ok hs (modeReadyBody_of_ready hr _),
    fun hr => exec_of_not_ready hs hr⟩⟩

/-! ## SEND (R112, R172) -/

theorem sendBody_of_identity {p : BitVec 2} {me : BitVec 6} {payload : List Byte} (hr : s.linkState = .ready)
    (hl : payload.length ≤ maxPayload) (hp : s.groupParity = some p) (hm : s.nodeId = some me) (c : Config)
    (flags : BitVec 2) (destId : BitVec 6) :
    sendBody c flags destId payload s = .ok .nothing
      (((s.afterSetMode c .freqSynth).afterFifoWrite c (frameBytes p me flags destId payload)).afterSetMode c
        .transmit) := by
  have hframe := encodeFrame_of_identity (s := s.afterSetMode c .freqSynth) hp hm flags destId payload
  simp [sendBody, checkReady_of_ready hr, not_lt.2 hl, hframe]

/-- Settles O11: the frame is built after FreqSynth is recorded, which changes no field it reads. -/
theorem sendStagesTheFrameBetweenTwoModes : Obligations.SendStagesTheFrameBetweenTwoModes := by
  refine fun s flags destId payload hs => ⟨fun hr hl p me hp hm => ?_, fun hr hl => ?_, fun hr => ?_, fun _ => ?_⟩
  · exact exec_of_ok hs (sendBody_of_identity hr hl hp hm _ flags destId)
  · exact exec_of_error hs (sendBody_of_long_payload hr hl _ flags destId)
  · exact exec_of_not_ready hs hr
  · exact Laws.EncodesItsLength.send flags destId payload

/-! ## TXPOWER and ADJUSTPOW (R151, R152) -/

theorem txPowerBody_of_ready (hr : s.linkState = .ready) (c : Config) (dBm : Byte) :
    txPowerBody c dBm s = .ok .nothing (s.afterTxPower c dBm.toInt) := by
  simp [txPowerBody, checkReady_of_ready hr, sext8]

/-- Settles O12: TXPOWER is the internal operation on its signed byte. -/
theorem txPowerWritesTheClampedPower : Obligations.TxPowerWritesTheClampedPower :=
  ⟨fun s p => txPower_apply _ p s, fun _ dBm hs => ⟨fun hr => exec_of_ok hs (txPowerBody_of_ready hr _ dBm),
    fun hr => exec_of_not_ready hs hr, rfl⟩⟩

/-- Settles O13: the four cases are `State.afterAdjustPow` of the two signed bytes. -/
theorem adjustPowFollowsTheFourCases : Obligations.AdjustPowFollowsTheFourCases :=
  fun _ margin target hs => ⟨fun hr _ hp => exec_of_ok hs (adjustPowBody_of_power hr hp _ margin target),
    fun hr => exec_of_not_ready hs hr, rfl⟩

/-! ## ADJUSTFREQ (R153, R209) -/

section
variable {fe : Int} {cur : Hz32}

theorem adjustFreqBody_of_fits (hr : s.linkState = .ready) (hf : s.frequencyErrorHz = some fe)
    (hc : s.currentFrequency = some cur) (h : correctionFits c fe cur) :
    adjustFreqBody c s = .ok .nothing (s.afterAdjustFreq c fe cur) := by
  simp [adjustFreqBody, checkReady_of_ready hr, adjustFreq_of_fits hf hc h]

theorem adjustFreqBody_of_not_fits (hr : s.linkState = .ready) (hf : s.frequencyErrorHz = some fe)
    (hc : s.currentFrequency = some cur) (h : ¬ correctionFits c fe cur) :
    adjustFreqBody c s = .error (.freqOutOfRange (refusedFrequency c fe cur))
      (s.faulting (.freqOutOfRange (refusedFrequency c fe cur))) := by
  simp [adjustFreqBody, checkReady_of_ready hr, adjustFreq_of_not_fits hf hc h]

theorem adjustFreqBody_of_no_error (hr : s.linkState = .ready) (hf : s.frequencyErrorHz = none) (c : Config) :
    adjustFreqBody c s = .error (.unwritten .frequencyErrorHz) (s.faulting (.unwritten .frequencyErrorHz)) := by
  simp [adjustFreqBody, checkReady_of_ready hr, adjustFreq_of_none hf, setFault_eq_faulting]

end

/-- Settles O14: the two faults are the two ways a correction does not fit, and name the frequency that was refused. -/
theorem adjustFreqProgramsTheCorrectedFrequency : Obligations.AdjustFreqProgramsTheCorrectedFrequency := by
  refine ⟨rfl, fun s hs => ⟨fun hr fe new cur hf hc hnew => ?_, fun hr hf => ?_, fun hr => ?_⟩⟩
  · obtain rfl : new = correctedFrequency Config.chip fe cur := hnew
    have refused := fun h =>
      exec_of_error (i := .adjustFreq) hs (adjustFreqBody_of_not_fits (c := Config.chip) hr hf hc h)
    refine ⟨fun hout => ?_, fun lo hi hhigh => ?_, fun lo hi hlow => ?_⟩
    · rw [refused fun h => by obtain ⟨lo, hi, _⟩ := h; omega, refusedFrequency, if_pos hout]
    · rw [refused fun h => absurd h.2.2 (not_lt.2 hhigh), refusedFrequency, if_neg (by omega)]
    · exact exec_of_ok hs (adjustFreqBody_of_fits hr hf hc ⟨lo, hi, hlow⟩)
  · exact exec_of_error hs (adjustFreqBody_of_no_error hr hf _)
  · exact exec_of_not_ready hs hr

/-! ## The metrics' values (R132, R134, R135) -/

/-- The AFC value as a two's-complement number (R8). -/
theorem sext16_eq (w : BitVec 16) : sext16 w = (w.toNat : Int) - (if w.getLsbD 15 then 65536 else 0) := by
  rw [sext16, BitVec.toInt_eq_msb_cond, BitVec.msb_eq_getLsbD_last]
  split <;> simp_all

/-- Settles O51: both signs scale the same number of AFC steps, at most 32,768 either way. -/
theorem afcErrorScalesTheSignedValue : Obligations.AfcErrorScalesTheSignedValue := by
  intro c w
  refine ⟨fun h => ?_, fun h => ?_, ?_⟩
  · rw [← sext16_eq, afcToHz, feSignOf, h]
    rfl
  · rw [← sext16_eq, afcToHz, feSignOf, h]
    rfl
  · obtain ⟨k, hk, lo, hi⟩ := afcToHz_eq_steps c w
    omega

/-- The floored difference of naturals is the maximum with 0 of the integer difference (R134). -/
theorem snrOf_cast (c : Config) (n1 n2 r : Byte) : ((snrOf c n1 n2 r : Nat) : Int) =
    (max 0 (((n1.toNat + n2.toNat) / 2 : Nat) - (r.toNat : Int))) / (rssiDivisor c : Int) := by
  rw [snrOf, noiseOf, Int.natCast_div]
  congr 1
  omega

/-- Settles O53: the noise is at most 255, so half of what is above the RSSI is at most 127. -/
theorem payloadMetricsStayInRange : Obligations.PayloadMetricsStayInRange := by
  intro c n1 n2 r
  refine ⟨snrOf_cast c n1 n2 r, rfl, ?_, fun hd => ?_⟩
  · unfold linkMargin demodThresholdDb
    omega
  · have hsnr : snrOf c n1 n2 r ≤ 127 := by
      have h1 := n1.isLt
      have h2 := n2.isLt
      rw [snrOf, hd, noiseOf]
      omega
    refine ⟨hsnr, ?_⟩
    unfold linkMargin demodThresholdDb
    omega

end Sys2Proof.Machine


/-! PROOFS. RECEIVE, GETACK and READACK (spec/44_link_protocol.md): one equation of the body per way it can go. -/

namespace Sys2Proof.Machine

variable {c : Config} {s u : State} {len : Byte}

/-! ## The packet after the sync check and the flags read (R130) -/

section
variable {last : Bool} (hu : u = (s.afterSyncCheck c last).afterRead c .irqFlags2)
include hu

theorem packetCount_of_polled : u.packetCount = s.packetCount := by
  simp [hu, State.packetCount]

theorem packetByte_of_polled : u.packetByte = s.packetByte := by
  funext k
  simp [hu, State.packetByte]

theorem packetData_of_polled (n : Nat) : u.packetData n = s.packetData n := by
  simp [State.packetData, packetCount_of_polled hu, packetByte_of_polled hu]

end

/-! ## RECEIVE (R173) -/

/-- The receive filter on the packet of `s` (R113). -/
theorem acceptData_packet {t : State} {p : BitVec 2} {me : BitVec 6} (hp : t.groupParity = some p)
    (hm : t.nodeId = some me) (c : Config) (s : State) {n : Nat} (hn : 2 ≤ n) :
    ∃ ok, acceptData c s.packetCount (s.packetData n) t = .ok ok t ∧
      (ok = true ↔ dataAccepted c p me s.packetCount (s.packetByte 0)) := by
  by_cases hl : lengthInRange s.packetCount = true
  · obtain ⟨rest, hr⟩ := packetData_two (s := s) (n := n) (by simp [lengthInRange] at hl; omega) hn
    refine ⟨_, by rw [hr, acceptData_of_identity hp hm], ?_⟩
    simp [dataAccepted, lengthInRange, topTwo, lowSix, broadcastId, catchallId, and_assoc, or_assoc]
  · exact ⟨false, by simp [acceptData, hl], by simp, fun h => absurd (by simp [lengthInRange, h.1, h.2.1]) hl⟩

theorem receivePacket_of_no_rssi (h : s.rssiRaw = none) (c : Config) (len : Byte) :
    receivePacket c len s =
      .error (.unwritten .rssiRaw) ((s.afterPayloadReads c len.toNat).faulting (.unwritten .rssiRaw)) := by
  simp [receivePacket, readPayload_of_none h]

section
variable {r : Byte} {p : BitVec 2} {me : BitVec 6} (hl : 2 ≤ len.toNat) (hr : s.rssiRaw = some r)
  (hp : s.groupParity = some p) (hm : s.nodeId = some me)
include hl hr hp hm

theorem receivePacket_of_accepted (h : dataAccepted c p me s.packetCount (s.packetByte 0)) :
    receivePacket c len s =
      .ok (.poll s.packetCount.toNat (some (s.packetData len.toNat))) (s.afterPayload c len.toNat r) := by
  obtain ⟨ok, ha, hok⟩ := acceptData_packet (t := s.afterPayload c len.toNat r) hp hm c s hl
  simp [receivePacket, readPayload_of_some hr, ha, hok.2 h]

theorem receivePacket_of_rejected (h : ¬ dataAccepted c p me s.packetCount (s.packetByte 0)) :
    receivePacket c len s = .ok (.poll (-1) (some (s.packetData len.toNat))) (s.afterPayload c len.toNat r) := by
  obtain ⟨ok, ha, hok⟩ := acceptData_packet (t := s.afterPayload c len.toNat r) hp hm c s hl
  have hf : ok = false := by simpa [← hok] using h
  simp [receivePacket, readPayload_of_some hr, ha, hf]

end

section
variable (hr : s.linkState = .ready) (hl : 2 ≤ len.toNat)
include hr hl

theorem receiveBody_of_other_mode {m : Mode} (hm : s.mode = some m) (hne : m ≠ .receive) (c : Config) :
    receiveBody c len s = .ok (.poll (-1) none) (s.afterSetMode c .receive) := by
  simp [receiveBody, checkReady_of_ready hr, checkLen_of_le hl, demand_of_some hm, hne]

/-- In Receive mode the payload-ready bit decides between the packet and -1. -/
theorem receiveBody_of_receive_mode {last : Bool} (hm : s.mode = some .receive) (hlast : s.lastSync = some last)
    (c : Config) : receiveBody c len s =
      (if payloadReady c ((s.afterSyncCheck c last).answer 0) then receivePacket c len else pure (.poll (-1) none))
        ((s.afterSyncCheck c last).afterRead c .irqFlags2) := by
  simp [receiveBody, checkReady_of_ready hr, checkLen_of_le hl, demand_of_some hm, receivePoll, syncCheck_apply hlast]

end

/-- Settles O20: the mode is read after both checks, and nothing of the radio is. -/
theorem receiveEntersReceiveMode : Obligations.ReceiveEntersReceiveMode :=
  fun _ _ _ hs hr hl hm hne => exec_of_ok hs (receiveBody_of_other_mode hr hl hm hne _)

/-- Settles O21: with the payload-ready bit clear the poll ends at -1. -/
theorem receiveWithoutPayloadAnswersMinusOne : Obligations.ReceiveWithoutPayloadAnswersMinusOne := by
  intro s len last hs hr hl hm hlast hbit
  have hbody := receiveBody_of_receive_mode hr hl hm hlast Config.chip
  rw [payloadReady, bitSet, hbit] at hbody
  exact exec_of_ok hs hbody

/-- With the payload-ready bit set RECEIVE is its packet, from the state after the sync check and the flags read. -/
theorem receiveBody_of_payload {last : Bool} (hr : s.linkState = .ready) (hl : 2 ≤ len.toNat)
    (hm : s.mode = some .receive) (hlast : s.lastSync = some last)
    (hbit : payloadReady c ((s.afterSyncCheck c last).answer 0) = true)
    (hu : u = (s.afterSyncCheck c last).afterRead c .irqFlags2) : receiveBody c len s = receivePacket c len u := by
  rw [receiveBody_of_receive_mode hr hl hm hlast, hbit, if_pos rfl, hu]

/-- Settles O22: the filter reads the identity, which the sync check leaves alone, and the packet, which it does not
take. -/
theorem receiveFiltersThePacket : Obligations.ReceiveFiltersThePacket := by
  intro s u len r last p me hs hr hl hm hlast hbit hu hrssi hp hme
  have hbody := receiveBody_of_payload hr hl hm hlast hbit hu
  have hup : u.groupParity = some p := by simp [hu, hp]
  have hume : u.nodeId = some me := by simp [hu, hme]
  rw [← packetCount_of_polled hu, ← packetByte_of_polled hu, ← packetData_of_polled hu]
  exact ⟨fun h => exec_of_ok hs (hbody.trans (receivePacket_of_accepted hl hrssi hup hume h)),
    fun h => exec_of_ok hs (hbody.trans (receivePacket_of_rejected hl hrssi hup hume h))⟩

/-- Settles O23: readPayload asks for the RSSI after its three transactions. -/
theorem receiveWithoutEdgeFaultsAfterItsReads : Obligations.ReceiveWithoutEdgeFaultsAfterItsReads :=
  fun _ _ len _ hs hr hl hm hlast hbit hu hrssi =>
    exec_of_error hs ((receiveBody_of_payload hr hl hm hlast hbit hu).trans (receivePacket_of_no_rssi hrssi _ len))

/-- Node 5 of parity 3 takes a packet of length 12 to itself and to everyone. -/
theorem dataAccepted_scenario (c : Config) {dest : Byte} (h : dest = 0xC5 ∨ dest = 0xC0) :
    dataAccepted c 3 5 12 dest := by
  rcases h with rfl | rfl <;> exact ⟨by decide, by decide, .inr (by decide)⟩

/-- A node that is not the catch-all takes no packet of another parity. -/
theorem not_dataAccepted_of_parity {c : Config} {count dest : Byte} (h : dest.extractLsb' 6 2 ≠ 3) :
    ¬ dataAccepted c 3 5 count dest := by
  rintro ⟨_, _, ⟨_, hid⟩ | ⟨hparity, _⟩⟩
  · exact absurd hid (by decide)
  · exact h hparity

/-- Settles O24: the two destination bytes have the node's parity and an id the filter passes. -/
theorem endToEndScenarioFiltersByParity : Obligations.EndToEndScenarioFiltersByParity := by
  intro s len r last hs hr hl hm hlast hme hp hbit hrssi hcount
  obtain ⟨accepted, rejected⟩ := receiveFiltersThePacket s _ len r last 3 5 hs hr hl hm hlast hbit rfl hrssi hp hme
  rw [hcount] at accepted rejected
  refine ⟨fun hdest => ⟨_, accepted (dataAccepted_scenario _ hdest), ?_, List.getLast?_concat⟩,
    fun hdest => ⟨_, rejected (not_dataAccepted_of_parity hdest), ?_, List.getLast?_concat⟩⟩ <;> simpa using hs

/-! ## How the body of an ack ends (R175, R176) -/

section
variable {r : Byte} {p : BitVec 2} {me : BitVec 6} (hl : 2 ≤ len.toNat) (hr : s.rssiRaw = some r)
  (hp : s.groupParity = some p) (hm : s.nodeId = some me)
  (ha : ackAccepted c p me s.packetCount (s.packetByte 0) (s.packetByte 1))
include hl hr hp hm ha

theorem readAckBody_of_no_trailer (ht : ¬ trailerDelivered s.packetCount len) :
    readAckBody c len s =
      .ok (.poll s.packetCount.toNat (some (s.packetData len.toNat))) (s.afterPayload c len.toNat r) := by
  rw [readAckBody_of_accepted hl hr hp hm ha, infoTrailer_of_not_delivered ht]
  rfl

section
variable (ht : trailerDelivered s.packetCount len)
include ht

/-- A fault of the frequency loop ends the ack (R153, R175). -/
theorem readAckBody_of_frequency_fault {f : Fault} {t : State}
    (hf : adjustFreq c (s.afterPayload c len.toNat r) = .error f t) : readAckBody c len s = .error f t := by
  simp [readAckBody_of_accepted hl hr hp hm ha, infoTrailer_packet ht, adaptIfTrailer, adaptToTrailer_of_error hf]

theorem readAckBody_of_no_error (hf : s.frequencyErrorHz = none) :
    readAckBody c len s = .error (.unwritten .frequencyErrorHz)
      ((s.afterPayload c len.toNat r).faulting (.unwritten .frequencyErrorHz)) :=
  readAckBody_of_frequency_fault hl hr hp hm ha ht (adjustFreq_of_none (s := s.afterPayload c len.toNat r) hf c)

theorem readAckBody_of_not_fits {fe : Int} {cur : Hz32} (hf : s.frequencyErrorHz = some fe)
    (hc : s.currentFrequency = some cur) (h : ¬ correctionFits c fe cur) :
    readAckBody c len s = .error (.freqOutOfRange (refusedFrequency c fe cur))
      ((s.afterPayload c len.toNat r).faulting (.freqOutOfRange (refusedFrequency c fe cur))) :=
  readAckBody_of_frequency_fault hl hr hp hm ha ht (adjustFreq_of_not_fits (s := s.afterPayload c len.toNat r) hf hc h)

theorem readAckBody_of_fits {fe pow : Int} {cur : Hz32} (hf : s.frequencyErrorHz = some fe)
    (hc : s.currentFrequency = some cur) (hw : s.txPowerDbm = some pow) (h : correctionFits c fe cur) :
    readAckBody c len s = .ok (.poll s.packetCount.toNat (some (s.packetData len.toNat)))
      ((s.afterPayload c len.toNat r).afterAdaptation c (s.packetByte (s.packetCount.toNat - 2)) fe cur pow) := by
  have adapt := adaptToTrailer_of_fits (s := s.afterPayload c len.toNat r) hf hc hw h
    (s.packetByte (s.packetCount.toNat - 2))
  simp [readAckBody_of_accepted hl hr hp hm ha, infoTrailer_packet ht, adaptIfTrailer, adapt]

end

end

/-! ## READACK (R175) -/

/-- After both checks READACK is the body of an ack. -/
theorem readAckCommandBody_of_ready (hr : s.linkState = .ready) (hl : 2 ≤ len.toNat) (c : Config) :
    readAckCommandBody c len s = readAckBody c len s := by
  simp [readAckCommandBody, checkReady_of_ready hr, checkLen_of_le hl]

/-- Settles O31: the three ways the body of an ack returns. -/
theorem readAckFiltersAndAdapts : Obligations.ReadAckFiltersAndAdapts := by
  intro s len r p me fe pow cur hs hr hl hrssi hf hc hw hp hm
  have hbody := readAckCommandBody_of_ready hr hl Config.chip
  exact ⟨fun h => exec_of_ok hs (hbody.trans (readAckBody_of_rejected hl hrssi hp hm h)),
    fun ha ht => exec_of_ok hs (hbody.trans (readAckBody_of_no_trailer hl hrssi hp hm ha ht)),
    fun ha ht h => exec_of_ok hs (hbody.trans (readAckBody_of_fits hl hrssi hp hm ha ht hf hc hw h))⟩

/-- Settles O32: the frequency loop faults on the state the packet read left. -/
theorem readAckFrequencyFaultRollsNothingBack : Obligations.ReadAckFrequencyFaultRollsNothingBack :=
  fun _ _ _ _ _ _ _ hs hr hl hrssi hf hc hp hm ha ht h => exec_of_error hs
    ((readAckCommandBody_of_ready hr hl _).trans (readAckBody_of_not_fits hl hrssi hp hm ha ht hf hc h))

/-- Settles O54: the packet read misses the RSSI, or the frequency loop the error. -/
theorem readAckWithoutEdgeFaultsAfterItsReads : Obligations.ReadAckWithoutEdgeFaultsAfterItsReads := by
  intro s len hs hr hl
  have hbody := readAckCommandBody_of_ready hr hl Config.chip
  exact ⟨fun h => exec_of_error hs (hbody.trans (readAckBody_of_no_rssi h _)),
    fun r p me hrssi hp hm ha ht h =>
      exec_of_error hs (hbody.trans (readAckBody_of_no_error hl hrssi hp hm ha ht h))⟩

/-! ## GETACK (R174) -/

/-- After the poll that reads packet-sent set: the flags read, the two timeouts and Receive (R71, R174). -/
def State.afterPacketSent (c : Config) (s : State) : State :=
  (((s.afterRead c .irqFlags2).afterWrite c .rxTimeout1 c.ackTimeout1).afterWrite c .rxTimeout2
    c.ackTimeout2).afterSetMode c .receive

section
variable (hr : s.linkState = .ready) (hl : 2 ≤ len.toNat)
include hr hl

theorem getAckBody_of_packet_not_sent (hm : s.mode = some .transmit) (hbit : packetSent c (s.answer 0) = false) :
    getAckBody c len s = .ok (.poll (-1) none) (s.afterRead c .irqFlags2) := by
  simp [getAckBody, checkReady_of_ready hr, checkLen_of_le hl, demand_of_some hm, getAckTransmit, hbit]

theorem getAckBody_of_packet_sent (hm : s.mode = some .transmit) (hbit : packetSent c (s.answer 0) = true) :
    getAckBody c len s = .ok (.poll (-1) none) (s.afterPacketSent c) := by
  simp [getAckBody, checkReady_of_ready hr, checkLen_of_le hl, demand_of_some hm, getAckTransmit, hbit,
    State.afterPacketSent]

section
variable {last : Bool} (hm : s.mode = some .receive) (hlast : s.lastSync = some last)
include hm hlast

/-- In Receive mode GETACK is its Receive phase after the sync check. -/
theorem getAckBody_of_receive_mode : getAckBody c len s =
    (if timeoutFlag c (s.answer 0) then timeoutBoost c >>= fun _ => pure (.poll 0 none)
      else regRead c .irqFlags2 >>= fun f2 => if payloadReady c f2 then readAckBody c len else pure (.poll (-1) none))
      (s.afterSyncCheck c last) := by
  simp [getAckBody, checkReady_of_ready hr, checkLen_of_le hl, demand_of_some hm, getAckReceive, syncCheck_apply hlast]

theorem getAckBody_of_timeout {p : Int} (hp : s.txPowerDbm = some p) (hbit : timeoutFlag c (s.answer 0) = true) :
    getAckBody c len s = .ok (.poll 0 none)
      (if c.timeoutBoostEnabled then (s.afterSyncCheck c last).afterTxPower c (p + 1)
        else s.afterSyncCheck c last) := by
  have hq : (s.afterSyncCheck c last).txPowerDbm = some p := by simp [hp]
  rw [getAckBody_of_receive_mode hr hl hm hlast, hbit]
  cases hb : c.timeoutBoostEnabled <;> simp [timeoutBoost, hb, demand_of_some hq]

section
variable (hbit : timeoutFlag c (s.answer 0) = false)
include hbit

theorem getAckBody_of_no_payload (hready : payloadReady c ((s.afterSyncCheck c last).answer 0) = false) :
    getAckBody c len s = .ok (.poll (-1) none) ((s.afterSyncCheck c last).afterRead c .irqFlags2) := by
  simp [getAckBody_of_receive_mode hr hl hm hlast, hbit, hready]

/-- With no timeout and a payload ready GETACK is the body of an ack. -/
theorem getAckBody_of_payload (hready : payloadReady c ((s.afterSyncCheck c last).answer 0) = true)
    (hu : u = (s.afterSyncCheck c last).afterRead c .irqFlags2) : getAckBody c len s = readAckBody c len u := by
  simp [getAckBody_of_receive_mode hr hl hm hlast, hbit, hready, hu]

end

end

end

/-- Settles O25: the packet-sent bit decides whether the timeouts are written. -/
theorem getAckTransmitPhaseWaitsForPacketSent : Obligations.GetAckTransmitPhaseWaitsForPacketSent :=
  fun _ _ hs hr hl hm => ⟨fun hbit => exec_of_ok hs (getAckBody_of_packet_not_sent hr hl hm hbit),
    fun hbit => exec_of_ok hs (getAckBody_of_packet_sent hr hl hm hbit)⟩

/-- Settles O26: the timeout bit is of the byte the sync check read, and is tested first. -/
theorem getAckTimeoutAnswersZero : Obligations.GetAckTimeoutAnswersZero :=
  fun _ _ _ _ hs hr hl hm hlast hp hbit => exec_of_ok hs (getAckBody_of_timeout hr hl hm hlast hp hbit)

/-- Settles O27: neither bit is set. -/
theorem getAckKeepsWaiting : Obligations.GetAckKeepsWaiting :=
  fun _ _ _ hs hr hl hm hlast hbit hready => exec_of_ok hs (getAckBody_of_no_payload hr hl hm hlast hbit hready)

/-- Settles O29: every way the body of an ack ends, from the state the sync check and the flags read left. -/
theorem getAckDeliversTheAck : Obligations.GetAckDeliversTheAck := by
  intro s u len last hs hr hl hm hlast hbit hready hu
  have hbody := getAckBody_of_payload hr hl hm hlast hbit hready hu
  refine ⟨fun h => exec_of_error hs (hbody.trans (readAckBody_of_no_rssi h _)), fun r p me hrssi hp hme => ?_⟩
  have hup : u.groupParity = some p := by simp [hu, hp]
  have hume : u.nodeId = some me := by simp [hu, hme]
  rw [← packetCount_of_polled hu, ← packetByte_of_polled hu, ← packetData_of_polled hu]
  refine ⟨fun h => exec_of_ok hs (hbody.trans (readAckBody_of_rejected hl hrssi hup hume h)),
    fun ha ht => exec_of_ok hs (hbody.trans (readAckBody_of_no_trailer hl hrssi hup hume ha ht)),
    fun ha ht h => exec_of_error hs (hbody.trans (readAckBody_of_no_error hl hrssi hup hume ha ht h)),
    fun ha ht fe cur hf hc => ?_⟩
  have huc : u.currentFrequency = some cur := by simp [hu, hc]
  refine ⟨fun pow hw hfits => ?_, fun hfits => ?_⟩
  · have huw : u.txPowerDbm = some pow := by simp [hu, hw]
    exact exec_of_ok hs (hbody.trans (readAckBody_of_fits hl hrssi hup hume ha ht hf huc huw hfits))
  · exact exec_of_error hs (hbody.trans (readAckBody_of_not_fits hl hrssi hup hume ha ht hf huc hfits))

end Sys2Proof.Machine


/-! PROOFS. What every command spends and records (spec/44_link_protocol.md, bounded quanta; spec/60_exceptions.md): how many
transactions it issues, how many of the radio's answers it takes, and that its fault record says how it ended. -/

namespace Sys2Proof.Machine

/-! ## Spending (R179, R201) -/

/-- From `s` to `t` at most `n` transactions were issued, at most `r` of them register reads and at most `p` FIFO reads;
no other entry was made in H and no byte was taken from the port. -/
structure State.Spent (n r p : Nat) (s t : State) : Prop where
  inbox : t.inbox = s.inbox
  history : ∃ es : List Event, t.history = s.history ++ es ∧ es.length ≤ n ∧ ∀ e ∈ es, e.isTransaction = true
  answers : ∃ k ≤ r, t.regAnswers = s.regAnswers.drop k ∧ t.regReads = s.regReads + k
  packets : ∃ k ≤ p, t.packets = s.packets.drop k ∧ t.fifoReads = s.fifoReads + k

theorem State.Spent.refl (s : State) : s.Spent 0 0 0 s :=
  ⟨rfl, ⟨[], by simp, by simp, by simp⟩, ⟨0, le_rfl, rfl, rfl⟩, ⟨0, le_rfl, rfl, rfl⟩⟩

theorem State.Spent.trans {n r p n' r' p' : Nat} {s t u : State} (h : s.Spent n r p t) (h' : t.Spent n' r' p' u) :
    s.Spent (n + n') (r + r') (p + p') u := by
  obtain ⟨hin, ⟨es, hes, hn, hall⟩, ⟨k, hk, hans, hreads⟩, ⟨q, hq, hpkts, hfifo⟩⟩ := h
  obtain ⟨hin', ⟨es', hes', hn', hall'⟩, ⟨k', hk', hans', hreads'⟩, ⟨q', hq', hpkts', hfifo'⟩⟩ := h'
  refine ⟨hin'.trans hin, ⟨es ++ es', by rw [hes', hes, List.append_assoc], by simp; omega, fun e he => ?_⟩,
    ⟨k + k', by omega, by rw [hans', hans, List.drop_drop], by omega⟩,
    ⟨q + q', by omega, by rw [hpkts', hpkts, List.drop_drop], by omega⟩⟩
  exact (List.mem_append.1 he).elim (hall e) (hall' e)

theorem State.Spent.mono {n r p n' r' p' : Nat} {s t : State} (h : s.Spent n r p t) (hle : n ≤ n' ∧ r ≤ r' ∧ p ≤ p') :
    s.Spent n' r' p' t := by
  obtain ⟨hin, ⟨es, hes, hn, hall⟩, ⟨k, hk, hans⟩, ⟨q, hq, hpkts⟩⟩ := h
  obtain ⟨hle_n, hle_r, hle_p⟩ := hle
  exact ⟨hin, ⟨es, hes, hn.trans hle_n, hall⟩, ⟨k, hk.trans hle_r, hans⟩, ⟨q, hq.trans hle_p, hpkts⟩⟩

/-- The piece stays within its budget on every path, and a fault is recorded where it ends in one and nowhere else. -/
structure Spends (n r p : Nat) {α : Type} (x : Cmd α) : Prop where
  ok : ∀ s a t, x s = .ok a t → s.Spent n r p t ∧ t.fault = s.fault
  error : ∀ s f t, x s = .error f t → s.Spent n r p t ∧ t.fault = some f

section
variable {α β : Type} {n r p n' r' p' : Nat} {c : Config}

theorem Spends.mono {x : Cmd α} (h : Spends n r p x) (hle : n ≤ n' ∧ r ≤ r' ∧ p ≤ p' := by omega) : Spends n' r' p' x where
  ok s a t hx := ⟨(h.ok s a t hx).1.mono hle, (h.ok s a t hx).2⟩
  error s f t hx := ⟨(h.error s f t hx).1.mono hle, (h.error s f t hx).2⟩

/-- A write of S or of H. -/
theorem Spends.update {f : State → State} (h : ∀ s, s.Spent n r p (f s) ∧ (f s).fault = s.fault) :
    Spends n r p (Machine.update f) where
  ok s _ _ hx := by cases hx; exact h s
  error _ _ _ hx := by cases hx

theorem Spends.pure (a : α) : Spends 0 0 0 (Pure.pure a : Cmd α) where
  ok s _ _ hx := by cases hx; exact ⟨State.Spent.refl s, rfl⟩
  error _ _ _ hx := by cases hx

theorem State.Spent.setFault (s : State) (f : Fault) : s.Spent 0 0 0 (s.setFault f) := { State.Spent.refl s with }

theorem Spends.raise (f : Fault) : Spends 0 0 0 (raise f : Cmd α) where
  ok _ _ _ hx := by cases hx
  error s _ _ hx := by cases hx; exact ⟨State.Spent.setFault s f, rfl⟩

theorem Spends.bind {x : Cmd α} {f : α → Cmd β} (hx : Spends n r p x) (hf : ∀ a, Spends n' r' p' (f a)) :
    Spends (n + n') (r + r') (p + p') (x >>= f) := by
  refine ⟨fun s b u h => ?_, fun s e u h => ?_⟩ <;> rw [bind_apply] at h <;> cases ht : x s <;> simp only [ht] at h
  case refine_1.ok a t =>
    obtain ⟨spent, fault⟩ := hx.ok s a t ht
    obtain ⟨spent', fault'⟩ := (hf a).ok t b u h
    exact ⟨spent.trans spent', fault'.trans fault⟩
  case refine_1.error => cases h
  case refine_2.ok a t =>
    obtain ⟨spent', fault'⟩ := (hf a).error t e u h
    exact ⟨(hx.ok s a t ht).1.trans spent', fault'⟩
  case refine_2.error f t =>
    cases h
    obtain ⟨spent, fault⟩ := hx.error s _ _ ht
    exact ⟨spent.mono (by omega), fault⟩

theorem Spends.ite {b : Prop} [Decidable b] {x y : Cmd α} (hx : Spends n r p x) (hy : Spends n' r' p' y) :
    Spends (max n n') (max r r') (max p p') (if b then x else y) := by
  split
  · exact hx.mono
  · exact hy.mono

/-- What a piece does on a state may be what another piece does on it. -/
theorem Spends.of_forall_eq {x : Cmd α} (h : ∀ s, ∃ y : Cmd α, x s = y s ∧ Spends n r p y) : Spends n r p x where
  ok s a t hx := by
    obtain ⟨y, he, hy⟩ := h s
    exact hy.ok s a t (he ▸ hx)
  error s f t hx := by
    obtain ⟨y, he, hy⟩ := h s
    exact hy.error s f t (he ▸ hx)

theorem Spends.demand (field : Field) (get : State → Option α) : Spends 0 0 0 (demand field get) := by
  refine Spends.of_forall_eq fun s => ?_
  cases h : get s with
  | some v => exact ⟨_, demand_of_some h, Spends.pure v⟩
  | none => exact ⟨_, demand_of_none h, Spends.raise _⟩

theorem Spends.checkReady : Spends 0 0 0 checkReady := by
  refine Spends.of_forall_eq fun s => ?_
  by_cases h : s.linkState = .ready
  · exact ⟨_, checkReady_of_ready h, Spends.pure ()⟩
  · exact ⟨_, checkReady_of_not_ready h, Spends.raise _⟩

/-! ## The shared operations -/

/-- A list of writes, one transaction each. -/
theorem Spends.log_transactions (ts : List Transaction) : 
    Spends ts.length 0 0 (Machine.update (State.log (ts.map .transaction))) :=
  Spends.update fun s => ⟨{ State.Spent.refl s with history := ⟨_, rfl, by simp, by simp [Event.isTransaction]⟩ }, rfl⟩

theorem Spends.regWrite (c : Config) (reg : Reg) (v : Byte) : Spends 1 0 0 (regWrite c reg v) :=
  Spends.log_transactions [_]

theorem Spends.fifoWrite (c : Config) (bytes : List Byte) : Spends 1 0 0 (fifoWrite c bytes) :=
  Spends.log_transactions [_]

theorem Spends.regWrites (c : Config) (ws : List (WriteTarget × Byte)) : Spends ws.length 0 0 (regWrites c ws) := by
  have h := Spends.log_transactions (ws.map fun w => .regWrite (targetAddr c w.1) w.2)
  rwa [List.length_map, List.map_map] at h

theorem Spends.memWrites (ws : List (Byte × Byte)) : Spends ws.length 0 0 (memWrites ws) := by
  have h := Spends.log_transactions (ws.map fun w => .regWrite w.1 w.2)
  rwa [List.length_map, List.map_map] at h

theorem Spends.regRead (c : Config) (reg : Reg) : Spends 1 1 0 (regRead c reg) where
  ok s _ _ hx := by
    cases hx
    exact ⟨⟨rfl, ⟨_, rfl, by simp, by simp [Event.isTransaction]⟩, ⟨1, le_rfl, List.drop_one.symm, rfl⟩,
      ⟨0, le_rfl, rfl, rfl⟩⟩, rfl⟩
  error _ _ _ hx := by cases hx

theorem Spends.fifoRead (c : Config) (k : Nat) : Spends 1 0 1 (fifoRead c k) where
  ok s _ _ hx := by
    cases hx
    exact ⟨⟨rfl, ⟨_, rfl, by simp, by simp [Event.isTransaction]⟩, ⟨0, le_rfl, rfl, rfl⟩,
      ⟨1, le_rfl, List.drop_one.symm, rfl⟩⟩, rfl⟩
  error _ _ _ hx := by cases hx

/-- A write of S that leaves H, the fault record, the port and the radio alone. -/
def WritesFreely (f : State → State) : Prop := ∀ s, s.Spent 0 0 0 (f s) ∧ (f s).fault = s.fault

theorem Spends.write {f : State → State} (h : WritesFreely f) : Spends 0 0 0 (Machine.update f) := Spends.update h

theorem writesFreely_setLink (l : LinkState) : WritesFreely (State.setLink l) :=
  fun s => ⟨{ State.Spent.refl s with }, rfl⟩

theorem writesFreely_setMode (m : Mode) : WritesFreely (State.setMode m) :=
  fun s => ⟨{ State.Spent.refl s with }, rfl⟩

theorem writesFreely_setIdentity (id : BitVec 6) (q : BitVec 2) : WritesFreely (State.setIdentity id q) :=
  fun s => ⟨{ State.Spent.refl s with }, rfl⟩

theorem writesFreely_setFrequency (hz : Hz32) : WritesFreely (State.setFrequency hz) :=
  fun s => ⟨{ State.Spent.refl s with }, rfl⟩

theorem writesFreely_setPower (q : Int) : WritesFreely (State.setPower q) :=
  fun s => ⟨{ State.Spent.refl s with }, rfl⟩

theorem writesFreely_setSyncMetrics (rssi : Byte) (gain : Nat) (fe : Int) :
    WritesFreely (State.setSyncMetrics rssi gain fe) := fun s => ⟨{ State.Spent.refl s with }, rfl⟩

theorem writesFreely_setPayloadMetrics (snr : Nat) (margin : Int) :
    WritesFreely (State.setPayloadMetrics snr margin) := fun s => ⟨{ State.Spent.refl s with }, rfl⟩

theorem writesFreely_clearMetrics : WritesFreely State.clearMetrics :=
  fun s => ⟨{ State.Spent.refl s with }, rfl⟩

theorem writesFreely_setLastSync (b : Bool) : WritesFreely (State.setLastSync b) :=
  fun s => ⟨{ State.Spent.refl s with }, rfl⟩

theorem Spends.setMode (c : Config) (m : Mode) : Spends 1 0 0 (setMode c m) :=
  ((Spends.regWrite _ _ _).bind fun _ => Spends.write (writesFreely_setMode _)).mono

theorem Spends.checkLen (op len : Byte) : Spends 0 0 0 (checkLen op len) :=
  ((Spends.raise _).ite (Spends.pure _)).mono

theorem Spends.encodeFrame (flags : BitVec 2) (destId : BitVec 6) (payload : List Byte) :
    Spends 0 0 0 (encodeFrame flags destId payload) :=
  ((Spends.demand _ _).bind fun _ => (Spends.demand _ _).bind fun _ => Spends.pure _).mono

theorem Spends.acceptDest (dest : Byte) : Spends 0 0 0 (acceptDest dest) :=
  ((Spends.demand _ _).bind fun _ => ((Spends.demand _ _).bind fun _ => Spends.pure _).ite (Spends.pure _)).mono

theorem Spends.acceptData (c : Config) (count : Byte) (data : List Byte) : Spends 0 0 0 (acceptData c count data) := by
  refine (Spends.ite (n := 0) (r := 0) (p := 0) ?_ (Spends.pure _)).mono
  split
  · exact ((((Spends.demand _ _).bind fun _ => Spends.pure _).ite (Spends.pure _)).bind fun _ =>
      (Spends.pure _).ite (Spends.acceptDest _)).mono
  · exact Spends.pure _

theorem Spends.acceptAck (c : Config) (count : Byte) (data : List Byte) : Spends 0 0 0 (acceptAck c count data) := by
  refine (Spends.ite (n := 0) (r := 0) (p := 0) ?_ (Spends.pure _)).mono
  split
  · exact ((Spends.demand _ _).bind fun _ => ((Spends.demand _ _).bind fun _ =>
      (Spends.pure _).ite (Spends.pure _)).ite (Spends.pure _)).mono
  · exact Spends.pure _

theorem Spends.programFrequency (c : Config) (hz : Nat) : Spends 3 0 0 (programFrequency c hz) :=
  ((Spends.regWrite _ _ _).bind fun _ => (Spends.regWrite _ _ _).bind fun _ => (Spends.regWrite _ _ _).bind fun _ =>
    Spends.write (writesFreely_setFrequency _)).mono

theorem Spends.setFrequency (c : Config) (f : Nat) : Spends 3 0 0 (setFrequency c f) :=
  (((Spends.raise _).ite (Spends.pure _)).bind fun _ =>
    (Spends.raise _).ite (Spends.programFrequency _ _)).mono

theorem Spends.adjustFreq (c : Config) : Spends 3 0 0 (adjustFreq c) :=
  ((Spends.demand _ _).bind fun _ => (Spends.demand _ _).bind fun _ =>
    (Spends.raise _).ite (Spends.setFrequency _ _)).mono

/-- The clamped power is of the range over which the bound is taken (R150, log entry 23). -/
theorem Spends.txPower (c : Config) (q : Int) : Spends (maxPaWrites c) 0 0 (txPower c q) := by
  obtain ⟨lo, hi⟩ := clamp_mem_range (txLo_le_txHi c) q
  have hlen := length_paLevelWrites_le c lo hi
  exact ((Spends.regWrites _ _).bind fun _ => Spends.write (writesFreely_setPower _)).mono

theorem Spends.adjustPow (c : Config) (margin target : Int) : Spends (maxPaWrites c) 0 0 (adjustPow c margin target) :=
  ((Spends.demand _ _).bind fun _ => (Spends.txPower _ _).ite
    ((Spends.txPower _ _).ite ((Spends.txPower _ _).ite (Spends.pure _)))).mono

theorem Spends.captureEdge (c : Config) : Spends 4 4 0 (captureEdge c) :=
  ((Spends.regRead _ _).bind fun _ => (Spends.regRead _ _).bind fun _ => (Spends.regRead _ _).bind fun _ =>
    (Spends.regRead _ _).bind fun _ => Spends.write (writesFreely_setSyncMetrics _ _ _)).mono

theorem Spends.syncCheck (c : Config) : Spends 5 5 0 (syncCheck c) := by
  have edge : ∀ b, Spends 0 0 0 (syncEdge b) := fun _ =>
    (((Spends.demand _ _).bind fun _ => Spends.pure _).ite (Spends.pure _)).mono
  have finish : ∀ (b : Bool) (f : Byte), Spends 0 0 0 (Machine.update (State.setLastSync b) >>= fun _ => Pure.pure f) :=
    fun _ _ => ((Spends.write (writesFreely_setLastSync _)).bind fun _ => Spends.pure _).mono
  exact ((Spends.regRead _ _).bind fun _ => (edge _).bind fun _ =>
    ((Spends.captureEdge _).bind fun _ => finish _ _).ite (finish _ _)).mono

theorem Spends.readPayload (c : Config) (k : Nat) : Spends 3 2 1 (readPayload c k) :=
  ((Spends.regRead _ _).bind fun _ => (Spends.fifoRead _ _).bind fun _ => (Spends.regRead _ _).bind fun _ =>
    (Spends.demand _ _).bind fun _ =>
    (Spends.write (writesFreely_setPayloadMetrics _ _)).bind fun _ => Spends.pure _).mono

theorem Spends.adaptIfTrailer (c : Config) (t : Option (Byte × Byte)) :
    Spends (3 + maxPaWrites c) 0 0 (adaptIfTrailer c t) := by
  cases t with
  | none => exact (Spends.pure _).mono
  | some t =>
    exact ((Spends.adjustFreq _).bind fun _ => (Spends.adjustPow _ _ _).ite (Spends.pure _)).mono

theorem Spends.readAckBody (c : Config) (len : Byte) : Spends (6 + maxPaWrites c) 2 1 (readAckBody c len) :=
  ((Spends.readPayload _ _).bind fun _ => (Spends.acceptAck _ _ _).bind fun _ =>
    ((Spends.adaptIfTrailer _ _).bind fun _ => Spends.pure _).ite (Spends.pure _)).mono

/-! ## INIT -/

/-- Each attempt is a write and a read (R170). -/
theorem Spends.presence (c : Config) (v : Byte) (k : Nat) : Spends (2 * k) k 0 (presence c v k) := by
  induction k with
  | zero => exact Spends.pure _
  | succ k ih =>
    exact ((Spends.regWrite _ _ _).bind fun _ => (Spends.regRead _ _).bind fun _ => (Spends.pure _).ite ih).mono

theorem Spends.initFail : Spends 0 0 0 initFail :=
  ((Spends.write (writesFreely_setLink _)).bind fun _ => Spends.pure _).mono

theorem Spends.initBringUp (c : Config) (group : Byte) (freq : Hz32) :
    Spends (c.configTable.length + 5) 0 0 (initBringUp c group freq) :=
  ((Spends.memWrites _).bind fun _ => (Spends.setMode _ _).bind fun _ => (Spends.setFrequency _ _).bind fun _ =>
    (Spends.regWrite _ _ _).bind fun _ => (Spends.write (writesFreely_setPower _)).bind fun _ =>
    (Spends.write writesFreely_clearMetrics).bind fun _ => (Spends.write (writesFreely_setLastSync _)).bind fun _ =>
    (Spends.write (writesFreely_setLink _)).bind fun _ => Spends.pure _).mono

theorem Spends.initBody (c : Config) (id group : Byte) (freq : Hz32) :
    Spends (4 * nonceRetries c + c.configTable.length + 5) (2 * nonceRetries c) 0 (initBody c id group freq) :=
  ((Spends.raise _).ite ((Spends.write (writesFreely_setIdentity _ _)).bind fun _ =>
    (Spends.presence _ _ _).bind fun _ => ((Spends.presence _ _ _).bind fun _ =>
      (Spends.initBringUp _ _ _).ite Spends.initFail).ite Spends.initFail)).mono

/-! ## Commands -/

theorem Spends.sendBody (c : Config) (flags : BitVec 2) (destId : BitVec 6) (payload : List Byte) :
    Spends 3 0 0 (sendBody c flags destId payload) :=
  (Spends.checkReady.bind fun _ => (Spends.raise _).ite ((Spends.setMode _ _).bind fun _ =>
    (Spends.encodeFrame _ _ _).bind fun _ => (Spends.fifoWrite _ _).bind fun _ => (Spends.setMode _ _).bind fun _ =>
      Spends.pure _)).mono

theorem Spends.receiveBody (c : Config) (len : Byte) : Spends 9 8 1 (receiveBody c len) := by
  have packet : Spends 3 2 1 (receivePacket c len) :=
    ((Spends.readPayload _ _).bind fun _ => (Spends.acceptData _ _ _).bind fun _ =>
      (Spends.pure _).ite (Spends.pure _)).mono
  have poll : Spends 9 8 1 (receivePoll c len) :=
    ((Spends.syncCheck _).bind fun _ => (Spends.regRead _ _).bind fun _ => packet.ite (Spends.pure _)).mono
  exact (Spends.checkReady.bind fun _ => (Spends.checkLen _ _).bind fun _ => (Spends.demand _ _).bind fun _ =>
    poll.ite ((Spends.setMode _ _).bind fun _ => Spends.pure _)).mono

theorem Spends.getAckTransmit (c : Config) : Spends 4 1 0 (getAckTransmit c) :=
  ((Spends.regRead _ _).bind fun _ => ((Spends.regWrite _ _ _).bind fun _ => (Spends.regWrite _ _ _).bind fun _ =>
    (Spends.setMode _ _).bind fun _ => Spends.pure _).ite (Spends.pure _)).mono

theorem Spends.getAckReceive (c : Config) (len : Byte) : Spends (12 + maxPaWrites c) 8 1 (getAckReceive c len) := by
  have boost : Spends (maxPaWrites c) 0 0 (timeoutBoost c) :=
    (((Spends.demand _ _).bind fun _ => Spends.txPower _ _).ite (Spends.pure _)).mono
  exact ((Spends.syncCheck _).bind fun _ => (boost.bind fun _ => Spends.pure _).ite
    ((Spends.regRead _ _).bind fun _ => (Spends.readAckBody _ _).ite (Spends.pure _))).mono

theorem Spends.getAckBody (c : Config) (len : Byte) : Spends (12 + maxPaWrites c) 8 1 (getAckBody c len) := by
  refine (Spends.checkReady.bind fun _ => (Spends.checkLen _ _).bind fun _ => (Spends.demand _ _).bind
    (n' := 12 + maxPaWrites c) (r' := 8) (p' := 1) fun m => ?_).mono
  cases m with
  | transmit => exact (Spends.getAckTransmit c).mono
  | receive => exact Spends.getAckReceive c len
  | sleep | standby | freqSynth => exact (Spends.raise _).mono

theorem Spends.telemetry {α : Type} (field : Field) (get : State → Option α) (toInt : α → Int) :
    Spends 0 0 0 (telemetry field get toInt) :=
  (Spends.checkReady.bind fun _ => (Spends.demand _ _).bind fun _ => Spends.pure _).mono

theorem Spends.readAckCommandBody (c : Config) (len : Byte) :
    Spends (6 + maxPaWrites c) 2 1 (readAckCommandBody c len) :=
  (Spends.checkReady.bind fun _ => (Spends.checkLen _ _).bind fun _ => Spends.readAckBody _ _).mono

theorem Spends.txPowerBody (c : Config) (dBm : Byte) : Spends (maxPaWrites c) 0 0 (txPowerBody c dBm) :=
  (Spends.checkReady.bind fun _ => (Spends.txPower _ _).bind fun _ => Spends.pure _).mono

theorem Spends.adjustPowBody (c : Config) (margin target : Byte) :
    Spends (maxPaWrites c) 0 0 (adjustPowBody c margin target) :=
  (Spends.checkReady.bind fun _ => (Spends.adjustPow _ _ _).bind fun _ => Spends.pure _).mono

theorem Spends.adjustFreqBody (c : Config) : Spends 3 0 0 (adjustFreqBody c) :=
  (Spends.checkReady.bind fun _ => (Spends.adjustFreq _).bind fun _ => Spends.pure _).mono

theorem Spends.sleepBody (c : Config) : Spends 1 0 0 (sleepBody c) :=
  (Spends.checkReady.bind fun _ => (Spends.setMode _ _).bind fun _ => Spends.pure _).mono

theorem Spends.addInfoBody (c : Config) : Spends 0 0 0 (addInfoBody c) :=
  (Spends.checkReady.bind fun _ => (Spends.demand _ _).bind fun _ => (Spends.demand _ _).bind fun _ =>
    Spends.pure _).mono

theorem Spends.modeReadyBody (c : Config) : Spends 1 1 0 (modeReadyBody c) :=
  (Spends.checkReady.bind fun _ => (Spends.regRead _ _).bind fun _ => Spends.pure _).mono

/-- How many register answers a command may take (R103, R170, R173, R174, R175). -/
def registerReadBound (c : Config) : Instr → Nat
  | .init _ _ _ => 2 * nonceRetries c
  | .receive _ => 8
  | .getAck _ => 8
  | .readAck _ => 2
  | .modeReady => 1
  | _ => 0

/-- How many FIFO answers a command may take: one, where it reads a packet (R134). -/
def fifoReadBound : Instr → Nat
  | .receive _ => 1
  | .getAck _ => 1
  | .readAck _ => 1
  | _ => 0

/-- Every command stays within R179's bound and takes only the answers its rules ask for. -/
theorem spends_bodyOf (c : Config) (i : Instr) :
    Spends (transactionBound c i) (registerReadBound c i) (fifoReadBound i) (bodyOf c i) := by
  cases i with
  | init id group freq => exact Spends.initBody c id group freq
  | send flags destId payload => exact Spends.sendBody c flags destId payload
  | receive len => exact Spends.receiveBody c len
  | getAck len => exact Spends.getAckBody c len
  | readAck len => exact Spends.readAckCommandBody c len
  | txPower dBm => exact Spends.txPowerBody c dBm
  | adjustPow margin target => exact Spends.adjustPowBody c margin target
  | adjustFreq => exact Spends.adjustFreqBody c
  | sleep => exact Spends.sleepBody c
  | addInfo => exact Spends.addInfoBody c
  | modeReady => exact Spends.modeReadyBody c
  | rdRssi | rdFe | rdLna | rdMargin | rdFreq | rdTxPow => exact Spends.telemetry _ _ _

end

/-! ## What a command leaves -/

section
variable {s t : State} {i : Instr}

/-- A command that has a next state returned without a fault, or left the state of the fault it recorded (R201). -/
theorem exec_next (h : exec i s = .next t) :
    (∃ r u, bodyOf Config.chip i s = .ok r u ∧ t = u.returning i r ∧ t.fault = none) ∨
      ∃ f, bodyOf Config.chip i s = .error f t ∧ t.fault = some f := by
  obtain ⟨hs, ⟨r, u, hu, rfl⟩ | ⟨f, hu⟩⟩ := command_next (exec_eq_command i s ▸ h)
  · exact .inl ⟨r, u, hu, rfl, (((spends_bodyOf _ i).ok s r u hu).2).trans hs⟩
  · exact .inr ⟨f, hu, ((spends_bodyOf _ i).error s f t hu).2⟩

theorem body_of_no_fault (h : exec i s = .next t) (ht : t.fault = none) :
    ∃ r u, bodyOf Config.chip i s = .ok r u ∧ t = u.returning i r := by
  obtain ⟨r, u, hu, rfl, _⟩ | ⟨f, _, hf⟩ := exec_next h
  · exact ⟨r, u, hu, rfl⟩
  · rw [ht] at hf
    cases hf

theorem body_of_fault {f : Fault} (h : exec i s = .next t) (ht : t.fault = some f) :
    bodyOf Config.chip i s = .error f t := by
  obtain ⟨r, u, hu, rfl, hnone⟩ | ⟨f', hu, hf⟩ := exec_next h
  · rw [ht] at hnone
    cases hnone
  · rw [ht] at hf
    rwa [Option.some.inj hf]

/-- The state a command's body leaves is within its budget, and differs from the command's by the result's entry only. -/
theorem exec_spent (h : exec i s = .next t) :
    ∃ u, s.Spent (transactionBound Config.chip i) (registerReadBound Config.chip i) (fifoReadBound i) u ∧
      (t = u ∨ ∃ r, t = u.returning i r) := by
  obtain ⟨r, u, hu, ht, _⟩ | ⟨f, hu, _⟩ := exec_next h
  · exact ⟨u, ((spends_bodyOf _ i).ok s r u hu).1, .inr ⟨r, ht⟩⟩
  · exact ⟨t, ((spends_bodyOf _ i).error s f t hu).1, .inl rfl⟩

end

/-- Settles O42: a body that returns records no fault and one that faults adds no entry, and all it appends before are
transactions. -/
theorem commandReturnsOrFaults : Obligations.CommandReturnsOrFaults := by
  intro s t i h
  obtain ⟨r, u, hu, rfl, hnone⟩ | ⟨f, hu, hf⟩ := exec_next h
  · obtain ⟨es, hes, _, hall⟩ := ((spends_bodyOf _ i).ok s r u hu).1.history
    exact ⟨es, hall, .inl ⟨hnone, r, by rw [State.returning_history, hes]⟩⟩
  · obtain ⟨es, hes, _, hall⟩ := ((spends_bodyOf _ i).error s f t hu).1.history
    exact ⟨es, hall, .inr ⟨by rw [hf]; rfl, hes⟩⟩

/-- The result's entry is not a transaction. -/
theorem transactionCount_returning (i : Instr) (r : Result) (u : State) :
    transactionCount (u.returning i r).history = transactionCount u.history := by
  simp [transactionCount, Event.isTransaction]

/-- Settles O45: what a body appends is within its budget, and a result adds no transaction. -/
theorem transactionsStayWithinTheBound : Obligations.TransactionsStayWithinTheBound := by
  intro s t i h
  obtain ⟨u, hspent, ht⟩ := exec_spent h
  obtain ⟨es, hes, hlen, _⟩ := hspent.history
  have hcount : transactionCount u.history ≤ transactionCount s.history + transactionBound Config.chip i := by
    rw [hes, transactionCount, List.countP_append]
    exact Nat.add_le_add_left (List.countP_le_length.trans hlen) _
  rcases ht with rfl | ⟨r, rfl⟩
  · exact hcount
  · rwa [transactionCount_returning]

theorem fifoReadBound_eq_zero {i : Instr} (h : i.opcode ∉ ([0x03, 0x04, 0x05] : List Byte)) : fifoReadBound i = 0 := by
  cases i with
  | receive | getAck | readAck => simp [Instr.opcode] at h
  | _ => rfl

theorem registerReadBound_eq_zero {i : Instr} (h : i.opcode ∉ ([0x01, 0x03, 0x04, 0x05, 0x0B] : List Byte))
    (c : Config) : registerReadBound c i = 0 := by
  cases i with
  | init | receive | getAck | readAck | modeReady => simp [Instr.opcode] at h
  | _ => rfl

/-- Settles O49: a budget of no reads leaves the radio's answers as they were. -/
theorem commandsLeaveThePortAndUnreadRadioAlone : Obligations.CommandsLeaveThePortAndUnreadRadioAlone := by
  intro s t i h
  obtain ⟨u, ⟨hin, _, ⟨k, hk, hans, hreads⟩, ⟨q, hq, hpkts, hfifo⟩⟩, ht⟩ := exec_spent h
  have left : u.inbox = s.inbox ∧
      (i.opcode ∉ ([0x03, 0x04, 0x05] : List Byte) → u.packets = s.packets ∧ u.fifoReads = s.fifoReads) ∧
      (i.opcode ∉ ([0x01, 0x03, 0x04, 0x05, 0x0B] : List Byte) →
        u.regAnswers = s.regAnswers ∧ u.regReads = s.regReads) := by
    refine ⟨hin, fun hi => ?_, fun hi => ?_⟩
    · obtain rfl : q = 0 := by rw [fifoReadBound_eq_zero hi] at hq; omega
      exact ⟨hpkts, hfifo⟩
    · obtain rfl : k = 0 := by rw [registerReadBound_eq_zero hi] at hk; omega
      exact ⟨hans, hreads⟩
  rcases ht with rfl | ⟨r, rfl⟩ <;> exact left

end Sys2Proof.Machine


/-! PROOFS. The ack's one unwritten field (spec/60_exceptions.md) and the source's getAck scenario
(spec/44_link_protocol.md). -/

namespace Sys2Proof.Machine

/-! ## What an ack can miss (R137, R202) -/

section
variable {c : Config} {s t : State} {len : Byte} {f : Field}

/-- In a Ready block that meets the invariant, the body of an ack misses nothing but the RSSI: where that is latched, so is
the error, and the frequency loop has what it reads. -/
theorem readAckBody_unwritten (hinv : s.Inv c) (hr : s.linkState = .ready) (hl : 2 ≤ len.toNat)
    (h : readAckBody c len s = .error (.unwritten f) t) : f = .rssiRaw := by
  obtain ⟨_, hme, hp, hcur, hpow, _⟩ := hinv.readyWritten hr
  obtain ⟨me, hme⟩ := Option.isSome_iff_exists.1 hme
  obtain ⟨p, hp⟩ := Option.isSome_iff_exists.1 hp
  obtain ⟨cur, hcur⟩ := Option.isSome_iff_exists.1 hcur
  obtain ⟨pow, hpow⟩ := Option.isSome_iff_exists.1 hpow
  cases hrssi : s.rssiRaw with
  | none =>
    rw [readAckBody_of_no_rssi hrssi] at h
    cases h
    rfl
  | some r =>
    obtain ⟨_, herror, _, _⟩ := hinv.metricsTogether
    obtain ⟨fe, hfe⟩ := Option.isSome_iff_exists.1 (herror.1 (by rw [hrssi]; rfl))
    by_cases ha : ackAccepted c p me s.packetCount (s.packetByte 0) (s.packetByte 1)
    · by_cases ht : trailerDelivered s.packetCount len
      · by_cases hfits : correctionFits c fe cur
        · rw [readAckBody_of_fits hl hrssi hp hme ha ht hfe hcur hpow hfits] at h
          cases h
        · rw [readAckBody_of_not_fits hl hrssi hp hme ha ht hfe hcur hfits] at h
          cases h
      · rw [readAckBody_of_no_trailer hl hrssi hp hme ha ht] at h
        cases h
    · rw [readAckBody_of_rejected hl hrssi hp hme ha] at h
      cases h

/-- The sync check and the flags read keep the invariant. -/
theorem State.Inv.polled (hinv : s.Inv c) {last : Bool} (hlast : s.lastSync = some last) :
    ((s.afterSyncCheck c last).afterRead c .irqFlags2).Inv c := by
  have hcheck := Keeps.syncCheck (c := c) State.Inv.transparent State.Inv.keepsAll.sync State.Inv.keepsAll.lastSync s hinv
  rw [syncCheck_apply hlast] at hcheck
  exact Keeps.regRead State.Inv.transparent c .irqFlags2 _ hcheck

/-- GETACK reads an unwritten field in the body of an ack only: every other field it asks for is written. -/
theorem getAckBody_unwritten (hinv : s.Inv c) (hr : s.linkState = .ready) (hl : 2 ≤ len.toNat)
    (h : getAckBody c len s = .error (.unwritten f) t) : f = .rssiRaw := by
  obtain ⟨hmode, _, _, _, hpow, hlast⟩ := hinv.readyWritten hr
  obtain ⟨m, hm⟩ := Option.isSome_iff_exists.1 hmode
  obtain ⟨pow, hpow⟩ := Option.isSome_iff_exists.1 hpow
  obtain ⟨last, hlast⟩ := Option.isSome_iff_exists.1 hlast
  cases m with
  | sleep | standby | freqSynth =>
    rw [getAckBody_of_no_phase hr hl hm (by decide)] at h
    cases h
  | transmit =>
    cases hbit : packetSent c (s.answer 0) with
    | false =>
      rw [getAckBody_of_packet_not_sent hr hl hm hbit] at h
      cases h
    | true =>
      rw [getAckBody_of_packet_sent hr hl hm hbit] at h
      cases h
  | receive =>
    cases hbit : timeoutFlag c (s.answer 0) with
    | true =>
      rw [getAckBody_of_timeout hr hl hm hlast hpow hbit] at h
      cases h
    | false =>
      cases hready : payloadReady c ((s.afterSyncCheck c last).answer 0) with
      | false =>
        rw [getAckBody_of_no_payload hr hl hm hlast hbit hready] at h
        cases h
      | true =>
        rw [getAckBody_of_payload hr hl hm hlast hbit hready rfl] at h
        exact readAckBody_unwritten (hinv.polled hlast) (by simp [hr]) hl h

end

/-- Settles O34: a buffer below 2 is another fault, and with a buffer of 2 or more both commands end in the body of an
ack. -/
theorem acksOnlyMissTheRssi : Obligations.AcksOnlyMissTheRssi := by
  intro s t len f hinv _ hr hexec hf
  by_cases hl : 2 ≤ len.toNat
  · rcases hexec with hexec | hexec
    · have hbody := body_of_fault hexec hf
      rw [bodyOf, readAckCommandBody_of_ready hr hl] at hbody
      exact readAckBody_unwritten hinv hr hl hbody
    · exact getAckBody_unwritten hinv hr hl (body_of_fault hexec hf)
  · have ill : (Instr.readAck len).wellFormed = false ∧ (Instr.getAck len).wellFormed = false := by
      simpa [Instr.wellFormed] using hl
    rcases hexec with hexec | hexec
    · have hbody := body_of_fault hexec hf
      rw [bodyOf_of_ill_formed hr ill.1] at hbody
      cases hbody
    · have hbody := body_of_fault hexec hf
      rw [bodyOf_of_ill_formed hr ill.2] at hbody
      cases hbody

/-! ## The getAck scenario (R178) -/

/-- A further command after a sequence that completed. -/
theorem execAll_concat {is : List Instr} {s t : State} (h : execAll is s = .next t) (i : Instr) :
    execAll (is ++ [i]) s = exec i t := by
  induction is generalizing s with
  | nil =>
    cases h
    rw [List.nil_append, execAll]
    cases exec i t <;> rfl
  | cons j js ih =>
    rw [List.cons_append, execAll]
    rw [execAll] at h
    cases hj : exec j s with
    | next u =>
      rw [hj] at h
      exact ih h
    | fault f => rw [hj] at h; cases h
    | refused f => rw [hj] at h; cases h

/-- The block with another history and other coming register answers. -/
def State.withReads (h : List Event) (answers : List Byte) (reads : Nat) (s : State) : State :=
  { s with history := h, regAnswers := answers, regReads := reads }

theorem resultsOf_append (h h' : List Event) : resultsOf (h ++ h') = resultsOf h ++ resultsOf h' :=
  List.filterMap_append

theorem resultsOf_returned (i : Instr) (r : Result) : resultsOf [.returned i r] = [r] := rfl

/-- Transactions hold no result. -/
theorem resultsOf_transactions {es : List Event} (h : ∀ e ∈ es, e.isTransaction = true) : resultsOf es = [] := by
  refine List.filterMap_eq_nil_iff.2 fun e he => ?_
  cases e with
  | transaction _ => rfl
  | returned _ _ => exact absurd (h _ he) (by simp [Event.isTransaction])

/-- A command that returns adds its result to those of the history, and no other (R32). -/
theorem resultsOf_exec {s u : State} {i : Instr} {r : Result} (h : exec i s = .next (u.returning i r))
    (hu : u.fault = none) : resultsOf (u.returning i r).history = resultsOf s.history ++ [r] := by
  obtain ⟨es, hall, ⟨_, r', hes⟩ | ⟨hf, _⟩⟩ := commandReturnsOrFaults s _ i h
  · have hlast : (u.returning i r).history.getLast? = some (.returned i r) := List.getLast?_concat
    rw [hes, List.getLast?_concat] at hlast
    obtain rfl : r' = r := by simpa using hlast
    rw [hes, resultsOf_append, resultsOf_append, resultsOf_transactions hall, List.append_nil, resultsOf_returned]
  · rw [State.returning_fault, hu] at hf
    cases hf

/-- The last four entries of the poll that reads packet-sent set (R174). -/
def packetSentEvents (c : Config) (len : Byte) : List Event :=
  [.transaction (.regWrite (c.regAddr .rxTimeout1) c.ackTimeout1),
   .transaction (.regWrite (c.regAddr .rxTimeout2) c.ackTimeout2),
   .transaction (.regWrite (c.regAddr .opMode) (opModeByte c .receive)), .returned (.getAck len) (.poll (-1) none)]

/-- The poll that reads packet-sent set, as one state. -/
theorem returning_afterPacketSent (c : Config) (len : Byte) (s : State) :
    (s.afterPacketSent c).returning (.getAck len) (.poll (-1) none) =
      (s.withReads (s.history ++ [.transaction (.regRead (c.regAddr .irqFlags2) (s.answer 0))] ++ packetSentEvents c len)
        s.regAnswers.tail (s.regReads + 1)).setMode .receive := by
  simp [State.afterPacketSent, packetSentEvents, State.afterRead, State.afterWrite, State.afterSetMode, State.returning,
    State.setMode, State.withReads]

section
variable {s : State} {len : Byte} (hs : s.fault = none) (hr : s.linkState = .ready) (hl : 2 ≤ len.toNat)
  (hm : s.mode = some .transmit)
include hs hr hl hm

/-- Any number of polls before packet-sent: each takes one answer, answers -1 and changes nothing else. -/
theorem execAll_getAck_not_sent (n : Nat) (hbits : ∀ k, k < n → packetSent Config.chip (s.answer k) = false) :
    ∃ h answers reads, execAll (List.replicate n (.getAck len)) s = .next (s.withReads h answers reads) ∧
      resultsOf h = resultsOf s.history ++ List.replicate n (.poll (-1) none) ∧
      ∀ k, (s.withReads h answers reads).answer k = s.answer (n + k) := by
  induction n with
  | zero => exact ⟨s.history, s.regAnswers, s.regReads, rfl, by simp, fun k => by rw [Nat.zero_add]; rfl⟩
  | succ n ih =>
    obtain ⟨h, answers, reads, hrun, hres, hans⟩ := ih fun k hk => hbits k (by omega)
    have hbit : packetSent Config.chip ((s.withReads h answers reads).answer 0) = false :=
      hans 0 ▸ hbits n (by omega)
    have hexec := (getAckTransmitPhaseWaitsForPacketSent (s.withReads h answers reads) len hs hr hl hm).1 hbit
    refine ⟨_, answers.tail, reads + 1, by rw [List.replicate_succ', execAll_concat hrun, hexec]; rfl, ?_, fun k => ?_⟩
    · refine (resultsOf_exec hexec hs).trans ?_
      rw [List.replicate_succ', ← List.append_assoc, ← hres]
      rfl
    · exact (answer_afterRead Config.chip .irqFlags2 (s.withReads h answers reads) k).trans
        ((hans (k + 1)).trans (by rw [Nat.add_right_comm, Nat.add_assoc]))

/-- The poll that reads packet-sent set: it ends in the two timeouts, Receive and its answer, and changes only the mode,
H and the radio's answers. -/
theorem execAll_getAck_sent (n : Nat) (hclear : ∀ k, k < n → packetSent Config.chip (s.answer k) = false)
    (hset : packetSent Config.chip (s.answer n) = true) :
    ∃ h answers reads,
      execAll (List.replicate (n + 1) (.getAck len)) s = .next ((s.withReads h answers reads).setMode .receive) ∧
      (∃ h', h = h' ++ packetSentEvents Config.chip len) ∧
      resultsOf h = resultsOf s.history ++ List.replicate (n + 1) (.poll (-1) none) ∧
      ((s.withReads h answers reads).setMode .receive).answer 0 = s.answer (n + 1) := by
  obtain ⟨h, answers, reads, hrun, hres, hans⟩ := execAll_getAck_not_sent hs hr hl hm n hclear
  have hbit : packetSent Config.chip ((s.withReads h answers reads).answer 0) = true := hans 0 ▸ hset
  have hsent := (getAckTransmitPhaseWaitsForPacketSent (s.withReads h answers reads) len hs hr hl hm).2 hbit
  have hnext := hsent.trans (congrArg Host.Outcome.next (returning_afterPacketSent Config.chip len _))
  refine ⟨_, answers.tail, reads + 1, by rw [List.replicate_succ', execAll_concat hrun, hnext]; rfl, ⟨_, rfl⟩, ?_,
    (answer_afterRead Config.chip .irqFlags2 (s.withReads h answers reads) 0).trans (hans 1)⟩
  rw [resultsOf_append, resultsOf_append, List.replicate_succ', ← List.append_assoc, ← hres]
  exact congrArg (· ++ _) (List.append_nil _)

end

/-- Settles O30: the polls before packet-sent, the one that reads it set, and the one that reads the timeout. -/
theorem getAckScenarioHolds : Obligations.GetAckScenarioHolds := by
  intro s len n last hs hr hl hm hlast hpow hclear hset htimeout
  obtain ⟨p, hp⟩ := Option.isSome_iff_exists.1 hpow
  obtain ⟨_, _, _, hrun, hres, _⟩ := execAll_getAck_not_sent hs hr hl hm n hclear
  obtain ⟨h, answers, reads, hrun', hend, hres', hans⟩ := execAll_getAck_sent hs hr hl hm n hclear hset
  refine ⟨⟨_, hrun, rfl, hres⟩, ⟨_, hrun', rfl, hend, hres'⟩, ?_⟩
  have hlate : timeoutFlag Config.chip (((s.withReads h answers reads).setMode .receive).answer 0) = true :=
    hans ▸ htimeout
  have hexpired := getAckTimeoutAnswersZero ((s.withReads h answers reads).setMode .receive) len last p hs hr hl rfl
    hlast hp hlate
  refine ⟨_, by rw [List.replicate_succ', execAll_concat hrun', hexpired], by split <;> simp, ?_⟩
  rw [resultsOf_exec hexpired (by split <;> simpa [State.withReads] using hs)]
  exact congrArg (· ++ _) hres'

end Sys2Proof.Machine


/-! PROOFS. The writers of each field (spec/10_state.md section 2), the recorded mode's transitions
(spec/40_mode_controller.md) and the results' ranges (spec/30_encoding.md section 1). -/

namespace Sys2Proof.Machine

/-! ## Which command writes what -/

section
variable {P : State → Prop} {c : Config} {i : Instr}

/-- `P` survives each kind of write that the command `i`, other than INIT, makes, by the opcodes of those that make it. A
kind that is not given is one that does not touch what `P` speaks of. -/
structure SurvivesWritesOf (P : State → Prop) (c : Config) (i : Instr) : Prop where
  transparent : Transparent P := by constructor <;> intros <;> assumption
  mode : i.opcode ∈ ([0x02, 0x03, 0x04, 0x09] : List Byte) → ∀ m s, P s → P (s.setMode m) := by
    intro _ _ _ h; exact h
  frequency : i.opcode ∈ ([0x04, 0x05, 0x08] : List Byte) → KeepsFrequency P := by
    intro _ _ _ _ _ h; exact h
  power : i.opcode ∈ ([0x04, 0x05, 0x06, 0x07] : List Byte) → KeepsPower P c := by
    intro _ _ _ _ _ h; exact h
  sync : i.opcode ∈ ([0x03, 0x04] : List Byte) → KeepsSync P c := by
    intro _ _ _ _ _ h; exact h
  lastSync : i.opcode ∈ ([0x03, 0x04] : List Byte) → KeepsLastSync P := by
    intro _ _ _ h; exact h
  payload : i.opcode ∈ ([0x03, 0x04, 0x05] : List Byte) → KeepsPayload P c := by
    intro _ _ _ _ _ _ h; exact h

/-- What survives the kinds of write a command makes survives the command. -/
theorem Keeps.bodyOf_of_survives (h : SurvivesWritesOf P c i) (hi : i.opcode ≠ 0x01) : Keeps P (Machine.bodyOf c i) := by
  have hT := h.transparent
  cases i with
  | init => exact absurd rfl hi
  | send => exact Keeps.sendBody hT (h.mode (by simp [Instr.opcode]) _) (h.mode (by simp [Instr.opcode]) _) _ _ _
  | receive =>
    exact Keeps.receiveBody hT (h.mode (by simp [Instr.opcode]) _) (h.sync (by simp [Instr.opcode]))
      (h.lastSync (by simp [Instr.opcode])) (h.payload (by simp [Instr.opcode])) _
  | getAck =>
    exact Keeps.getAckBody hT (h.mode (by simp [Instr.opcode]) _) (h.sync (by simp [Instr.opcode]))
      (h.lastSync (by simp [Instr.opcode])) (h.frequency (by simp [Instr.opcode])) (h.power (by simp [Instr.opcode]))
      (h.payload (by simp [Instr.opcode])) _
  | readAck =>
    exact Keeps.readAckCommandBody hT (h.frequency (by simp [Instr.opcode])) (h.power (by simp [Instr.opcode]))
      (h.payload (by simp [Instr.opcode])) _
  | txPower => exact Keeps.txPowerBody hT (h.power (by simp [Instr.opcode])) _
  | adjustPow => exact Keeps.adjustPowBody hT (h.power (by simp [Instr.opcode])) _ _
  | adjustFreq => exact Keeps.adjustFreqBody hT (h.frequency (by simp [Instr.opcode]))
  | sleep => exact Keeps.sleepBody hT (h.mode (by simp [Instr.opcode]) _)
  | addInfo => exact Keeps.addInfoBody hT
  | modeReady => exact Keeps.modeReadyBody hT
  | rdRssi | rdFe | rdLna | rdMargin | rdFreq | rdTxPow => exact Keeps.telemetry hT _ _ _

/-- What survives a command's writes and its result's entry holds after it, whether it returns or faults. -/
theorem exec_keeps_of_survives {s t : State} (h : SurvivesWritesOf P Config.chip i) (hi : i.opcode ≠ 0x01) (hs : P s)
    (hexec : exec i s = .next t) : P t :=
  (Keeps.bodyOf_of_survives h hi).command (fun r u hu => h.transparent.log [.returned i r] u hu) hs
    (exec_eq_command i s ▸ hexec)

end

/-- The projection `get` of the state has the value `v`. -/
def State.Has {α : Type} (get : State → α) (v : α) (s : State) : Prop := get s = v

/-- The fields only INIT writes (R22, R24, R25). -/
def State.link (s : State) : LinkState × Option (BitVec 6) × Option (BitVec 2) := (s.linkState, s.nodeId, s.groupParity)

/-- The fields of a sync check (R28, R29, R130). -/
def State.syncFields (s : State) : Option Byte × Option Nat × Option Int × Option Bool :=
  (s.rssiRaw, s.lnaGainDb, s.frequencyErrorHz, s.lastSync)

/-- The fields of a payload read (R28, R134). -/
def State.payloadFields (s : State) : Option Nat × Option Int := (s.snrDb, s.marginDb)

/-- An opcode outside a list that INIT's opcode begins is another command's. -/
theorem ne_init_of_not_mem {i : Instr} {l : List Byte} (h : i.opcode ∉ (0x01 :: l)) : i.opcode ≠ 0x01 :=
  fun he => h (he ▸ List.mem_cons_self)

section
variable (c : Config) {i : Instr}

theorem survives_link (v : LinkState × Option (BitVec 6) × Option (BitVec 2)) (i : Instr) :
    SurvivesWritesOf (State.Has State.link v) c i := {}

theorem survives_currentFrequency (v : Option Hz32) (hi : i.opcode ∉ ([0x01, 0x04, 0x05, 0x08] : List Byte)) :
    SurvivesWritesOf (State.Has State.currentFrequency v) c i where
  frequency hw := absurd (List.mem_cons_of_mem _ hw) hi

theorem survives_txPowerDbm (v : Option Int) (hi : i.opcode ∉ ([0x01, 0x04, 0x05, 0x06, 0x07] : List Byte)) :
    SurvivesWritesOf (State.Has State.txPowerDbm v) c i where
  power hw := absurd (List.mem_cons_of_mem _ hw) hi

theorem survives_syncFields (v : Option Byte × Option Nat × Option Int × Option Bool)
    (hi : i.opcode ∉ ([0x01, 0x03, 0x04] : List Byte)) : SurvivesWritesOf (State.Has State.syncFields v) c i where
  sync hw := absurd (List.mem_cons_of_mem _ hw) hi
  lastSync hw := absurd (List.mem_cons_of_mem _ hw) hi

theorem survives_payloadFields (v : Option Nat × Option Int)
    (hi : i.opcode ∉ ([0x01, 0x03, 0x04, 0x05] : List Byte)) :
    SurvivesWritesOf (State.Has State.payloadFields v) c i where
  payload hw := absurd (List.mem_cons_of_mem _ hw) hi

end

/-- Settles O47: each field survives the writes of every command that is not one of its writers. -/
theorem linkFieldsHaveTheirWriters : Obligations.LinkFieldsHaveTheirWriters := by
  intro s t i h
  refine ⟨fun hi => ?_, fun hi => ?_, fun hi => ?_⟩
  · simpa [State.Has, State.link] using exec_keeps_of_survives (survives_link _ s.link i) hi rfl h
  · exact exec_keeps_of_survives (survives_currentFrequency _ s.currentFrequency hi) (ne_init_of_not_mem hi) rfl h
  · exact exec_keeps_of_survives (survives_txPowerDbm _ s.txPowerDbm hi) (ne_init_of_not_mem hi) rfl h

/-- Settles O48: likewise the two metric sets. -/
theorem metricsHaveTheirWriters : Obligations.MetricsHaveTheirWriters := by
  intro s t i h
  refine ⟨fun hi => ?_, fun hi => ?_⟩
  · simpa [State.Has, State.syncFields] using
      exec_keeps_of_survives (survives_syncFields _ s.syncFields hi) (ne_init_of_not_mem hi) rfl h
  · simpa [State.Has, State.payloadFields] using
      exec_keeps_of_survives (survives_payloadFields _ s.payloadFields hi) (ne_init_of_not_mem hi) rfl h

end Sys2Proof.Machine


/-! PROOFS. What a command that returns answers (spec/30_encoding.md section 1) and the mode it leaves recorded
(spec/40_mode_controller.md). -/

namespace Sys2Proof.Machine

/-! ## A piece that returns -/

section
variable {α β : Type} {Q : α → State → Prop} {c : Config}

/-- Whenever the piece returns, its value and the state it leaves meet `Q`; of its faults nothing is asked. -/
def Returns (x : Cmd α) (Q : α → State → Prop) : Prop := ∀ s a t, x s = .ok a t → Q a t

theorem Returns.pure {a : α} (h : ∀ s, Q a s) : Returns (Pure.pure a) Q := by
  intro s _ _ hx
  cases hx
  exact h s

theorem Returns.raise (f : Fault) : Returns (raise f) Q := fun _ _ _ hx => by cases hx

theorem Returns.ite {p : Prop} [Decidable p] {x y : Cmd α} (hx : p → Returns x Q) (hy : ¬ p → Returns y Q) :
    Returns (if p then x else y) Q := by
  split
  case isTrue h => exact hx h
  case isFalse h => exact hy h

theorem Returns.mono {x : Cmd α} {R : α → State → Prop} (hx : Returns x R) (h : ∀ a t, R a t → Q a t) : Returns x Q :=
  fun s a t hr => h a t (hx s a t hr)

/-- What the rest of a sequence owes it owes for the values the first piece can return. -/
theorem Returns.bind_of {x : Cmd β} {f : β → Cmd α} {R : β → Prop} (hx : Returns x fun b _ => R b)
    (hf : ∀ b, R b → Returns (f b) Q) : Returns (x >>= f) Q := by
  intro s a u h
  rw [bind_apply] at h
  cases hs : x s with
  | ok b t =>
    rw [hs] at h
    exact hf b (hx s b t hs) t a u h
  | error e t =>
    rw [hs] at h
    cases h

/-- The end of a sequence decides what it returns. -/
theorem Returns.bind {x : Cmd β} {f : β → Cmd α} (hf : ∀ b, Returns (f b) Q) : Returns (x >>= f) Q :=
  Returns.bind_of (R := fun _ => True) (fun _ _ _ _ => trivial) fun b _ => hf b

/-- A setMode that is the last write leaves its mode recorded (R100). -/
theorem returns_setMode (m : Mode) {a : α} :
    Returns (setMode c m >>= fun _ => Pure.pure a) fun _ t => t.mode = some m := by
  intro s _ _ hx
  rw [bind_apply, setMode_apply] at hx
  cases hx
  rfl

end

/-! ## Results (R62) -/

section
variable {c : Config}

/-- The integers of a poll that delivers a packet (R62, R113, R114). -/
def packetCodes : Set Int := { n | 2 ≤ n ∧ n ≤ 64 }

theorem mem_packetCodes_of_lengthInRange {count : Byte} (h : lengthInRange count = true) :
    (count.toNat : Int) ∈ packetCodes := by
  simp only [lengthInRange, Bool.and_eq_true, decide_eq_true_eq] at h
  exact ⟨by omega, by omega⟩

/-- The result is a poll whose integer is in `codes`. -/
def IsPollIn (codes : Set Int) (r : Result) : Prop := ∃ n d, r = .poll n d ∧ n ∈ codes

theorem returns_poll {codes : Set Int} {n : Int} (h : n ∈ codes) (d : Option (List Byte)) :
    Returns (Pure.pure (Result.poll n d)) fun r _ => IsPollIn codes r := Returns.pure fun _ => ⟨n, d, rfl, h⟩

/-- Both filters look at the length byte first (R113, R114). -/
theorem acceptData_lengthInRange (count : Byte) (data : List Byte) :
    Returns (acceptData c count data) fun ok _ => ok = true → lengthInRange count = true :=
  Returns.ite (fun h _ _ _ _ _ => h) fun _ => Returns.pure fun _ => nofun

theorem acceptAck_lengthInRange (count : Byte) (data : List Byte) :
    Returns (acceptAck c count data) fun ok _ => ok = true → lengthInRange count = true :=
  Returns.ite (fun h _ _ _ _ _ => h) fun _ => Returns.pure fun _ => nofun

theorem receiveBody_result (len : Byte) :
    Returns (receiveBody c len) fun r _ => IsPollIn ({-1} ∪ packetCodes) r := by
  have none : Returns (Pure.pure (Result.poll (-1) none)) fun r _ => IsPollIn ({-1} ∪ packetCodes) r :=
    returns_poll (.inl rfl) _
  refine Returns.bind fun _ => Returns.bind fun _ => Returns.bind fun _ => Returns.ite (fun _ => ?_)
    fun _ => Returns.bind fun _ => none
  refine Returns.bind fun _ => Returns.bind fun _ => Returns.ite (fun _ => ?_) fun _ => none
  exact Returns.bind fun packet => Returns.bind_of (acceptData_lengthInRange _ _) fun _ hok => Returns.ite
    (fun h => returns_poll (.inr (mem_packetCodes_of_lengthInRange (hok h))) _) fun _ => returns_poll (.inl rfl) _

theorem readAckBody_result (len : Byte) :
    Returns (readAckBody c len) fun r _ => IsPollIn ({0} ∪ packetCodes) r :=
  Returns.bind fun _ => Returns.bind_of (acceptAck_lengthInRange _ _) fun _ hok => Returns.ite
    (fun h => Returns.bind fun _ => returns_poll (.inr (mem_packetCodes_of_lengthInRange (hok h))) _)
    fun _ => returns_poll (.inl rfl) _

theorem getAckBody_result (len : Byte) :
    Returns (getAckBody c len) fun r _ => IsPollIn ({-1} ∪ ({0} ∪ packetCodes)) r := by
  have wait : Returns (Pure.pure (Result.poll (-1) none)) fun r _ => IsPollIn ({-1} ∪ ({0} ∪ packetCodes)) r :=
    returns_poll (.inl rfl) _
  refine Returns.bind fun _ => Returns.bind fun _ => Returns.bind fun m => ?_
  cases m with
  | sleep | standby | freqSynth => exact Returns.raise _
  | transmit =>
    exact Returns.bind fun _ => Returns.ite (fun _ => Returns.bind fun _ => Returns.bind fun _ => Returns.bind fun _ => wait)
      fun _ => wait
  | receive =>
    refine Returns.bind fun _ => Returns.ite (fun _ => Returns.bind fun _ => returns_poll (.inr (.inl rfl)) _)
      fun _ => Returns.bind fun _ => Returns.ite (fun _ => ?_) fun _ => wait
    exact (readAckBody_result len).mono fun _ _ ⟨n, d, hr, hn⟩ => ⟨n, d, hr, .inr hn⟩

theorem initBody_result (id group : Byte) (freq : Hz32) :
    Returns (initBody c id group freq) fun r _ => r = .success ∨ r = .failure := by
  have fail : Returns initFail fun r _ => r = .success ∨ r = .failure := Returns.bind fun _ => Returns.pure fun _ => .inr rfl
  have up : Returns (initBringUp c group freq) fun r _ => r = .success ∨ r = .failure :=
    Returns.bind fun _ => Returns.bind fun _ => Returns.bind fun _ => Returns.bind fun _ => Returns.bind fun _ =>
      Returns.bind fun _ => Returns.bind fun _ => Returns.bind fun _ => Returns.pure fun _ => .inl rfl
  exact Returns.ite (fun _ => Returns.raise _) fun _ => Returns.bind fun _ => Returns.bind fun _ => Returns.ite
    (fun _ => Returns.bind fun _ => Returns.ite (fun _ => up) fun _ => fail) fun _ => fail

theorem returns_nothing : Returns (Pure.pure Result.nothing) fun r _ => r = .nothing := Returns.pure fun _ => rfl

theorem sendBody_result (flags : BitVec 2) (destId : BitVec 6) (payload : List Byte) :
    Returns (sendBody c flags destId payload) fun r _ => r = .nothing :=
  Returns.bind fun _ => Returns.ite (fun _ => Returns.raise _) fun _ => Returns.bind fun _ => Returns.bind fun _ =>
    Returns.bind fun _ => Returns.bind fun _ => returns_nothing

theorem addInfoBody_result : Returns (addInfoBody c) fun r _ => ∃ t0 t1, r = .trailer t0 t1 :=
  Returns.bind fun _ => Returns.bind fun _ => Returns.bind fun _ => Returns.pure fun _ => ⟨_, _, rfl⟩

theorem modeReadyBody_result : Returns (modeReadyBody c) fun r _ => ∃ b, r = .flag b :=
  Returns.bind fun _ => Returns.bind fun _ => Returns.pure fun _ => ⟨_, rfl⟩

/-- A telemetry read that returns read its field (R177). -/
theorem telemetry_ok {α : Type} {field : Field} {get : State → Option α} {toInt : α → Int} {s u : State} {r : Result}
    (h : telemetry field get toInt s = .ok r u) : ∃ v, get s = some v ∧ r = .value (toInt v) := by
  by_cases hr : s.linkState = .ready
  · cases hv : get s with
    | none =>
      rw [telemetry_of_none hr hv] at h
      cases h
    | some v =>
      rw [telemetry_of_some hr hv] at h
      cases h
      exact ⟨v, rfl, rfl⟩
  · rw [telemetry_of_not_ready hr] at h
    cases h

/-- Every body that returns answers a result of its command's type and range (R62). -/
theorem bodyOf_result {s u : State} {i : Instr} {r : Result} (hinv : s.Inv c) (h : bodyOf c i s = .ok r u) :
    resultInRange c i r := by
  cases i with
  | init id group freq => exact initBody_result id group freq s r u h
  | receive len =>
    obtain ⟨n, d, hr, hn⟩ := receiveBody_result len s r u h
    exact ⟨n, d, hr, hn⟩
  | getAck len =>
    obtain ⟨n, d, hr, hn⟩ := getAckBody_result len s r u h
    exact ⟨n, d, hr, hn⟩
  | readAck len =>
    obtain ⟨n, d, hr, hn⟩ := Returns.bind (fun _ => Returns.bind fun _ => readAckBody_result len) s r u h
    exact ⟨n, d, hr, hn⟩
  | send flags destId payload => exact sendBody_result flags destId payload s r u h
  | txPower dBm => exact Returns.bind (fun _ => Returns.bind fun _ => returns_nothing) s r u h
  | adjustPow margin target => exact Returns.bind (fun _ => Returns.bind fun _ => returns_nothing) s r u h
  | adjustFreq => exact Returns.bind (fun _ => Returns.bind fun _ => returns_nothing) s r u h
  | sleep => exact Returns.bind (fun _ => Returns.bind fun _ => returns_nothing) s r u h
  | addInfo => exact addInfoBody_result s r u h
  | modeReady => exact modeReadyBody_result s r u h
  | rdRssi =>
    obtain ⟨b, _, hr⟩ := telemetry_ok h
    have := b.isLt
    exact ⟨_, hr, by omega, by omega⟩
  | rdFe =>
    obtain ⟨v, _, hr⟩ := telemetry_ok h
    exact ⟨v, hr⟩
  | rdLna =>
    obtain ⟨g, hg, hr⟩ := telemetry_ok h
    have hmem := hinv.syncMetricsInRange.1 g hg
    simp only [List.mem_cons, List.not_mem_nil, or_false] at hmem
    exact ⟨g, hr, by simp only [List.mem_cons, List.not_mem_nil, or_false]; omega⟩
  | rdMargin =>
    obtain ⟨m, hm, hr⟩ := telemetry_ok h
    obtain ⟨n, _, hmn⟩ := hinv.payloadMetricsInRange.2 m hm
    exact ⟨m, hr, by omega⟩
  | rdFreq =>
    obtain ⟨f, _, hr⟩ := telemetry_ok h
    have := f.isLt
    exact ⟨_, hr, by omega, by omega⟩
  | rdTxPow =>
    obtain ⟨p, hp, hr⟩ := telemetry_ok h
    obtain ⟨lo, hi⟩ := hinv.powerInRange p hp
    exact ⟨p, hr, lo, hi⟩

end

/-- Settles O50: the last entry of H is the result the body returned. -/
theorem resultsHaveTheirStatedRanges : Obligations.ResultsHaveTheirStatedRanges := by
  intro s t i r hinv hexec ht hlast
  obtain ⟨r', u, hu, rfl⟩ := body_of_no_fault hexec ht
  rw [State.returning_history, List.getLast?_concat] at hlast
  obtain rfl : r' = r := by simpa using hlast
  exact bodyOf_result hinv hu

/-! ## The recorded mode (R104) -/

/-- A command that is not SLEEP, SEND, RECEIVE, GETACK or INIT writes no mode. -/
theorem exec_mode_of_no_writer {s t : State} {i : Instr}
    (hi : i.opcode ∉ ([0x01, 0x02, 0x03, 0x04, 0x09] : List Byte)) (h : exec i s = .next t) : t.mode = s.mode :=
  exec_keeps_of_survives (P := State.Has State.mode s.mode)
    { mode := fun hw => absurd (List.mem_cons_of_mem _ hw) hi } (ne_init_of_not_mem hi) rfl h

section
variable {c : Config} {s u : State} {r : Result}

theorem sendBody_mode (flags : BitVec 2) (destId : BitVec 6) (payload : List Byte) :
    Returns (sendBody c flags destId payload) fun _ t => t.mode = some .transmit :=
  Returns.bind fun _ => Returns.ite (fun _ => Returns.raise _) fun _ => Returns.bind fun _ => Returns.bind fun _ =>
    Returns.bind fun _ => returns_setMode _

theorem sleepBody_mode : Returns (sleepBody c) fun _ t => t.mode = some .sleep :=
  Returns.bind fun _ => returns_setMode _

/-- What a body that returns has passed: the readiness check, and the check of its argument. -/
theorem ready_of_ok {i : Instr} (h : bodyOf c i s = .ok r u)
    (hi : ∀ id group freq, i ≠ .init id group freq := by intro _ _ _ h; cases h) :
    s.linkState = .ready ∧ i.wellFormed = true := by
  by_cases hr : s.linkState = .ready
  · refine ⟨hr, ?_⟩
    cases hw : i.wellFormed with
    | true => rfl
    | false =>
      rw [bodyOf_of_ill_formed hr hw] at h
      cases h
  · rw [bodyOf_of_not_ready hr hi] at h
    cases h

theorem Keeps.of_ok {P : State → Prop} {α : Type} {x : Cmd α} {a : α} (hx : Keeps P x) (hs : P s)
    (h : x s = .ok a u) : P u := by
  have hend := hx s hs
  rwa [h] at hend

/-- The block is in Receive mode as far as it has recorded. -/
def State.InReceive (s : State) : Prop := s.mode = some .receive

theorem transparent_inReceive : Transparent State.InReceive := ⟨fun _ _ h => h, fun _ _ h => h, fun _ h => h, fun _ h => h⟩

/-- Neither poll leaves Receive mode: the one mode they write is Receive (R104). -/
theorem Keeps.receiveBody_inReceive (len : Byte) : Keeps State.InReceive (Machine.receiveBody c len) :=
  Keeps.receiveBody transparent_inReceive (fun _ _ => rfl) (fun _ _ _ _ h => h) (fun _ _ h => h)
    (fun _ _ _ _ _ h => h) len

theorem Keeps.getAckBody_inReceive (len : Byte) : Keeps State.InReceive (Machine.getAckBody c len) :=
  Keeps.getAckBody transparent_inReceive (fun _ _ => rfl) (fun _ _ _ _ h => h) (fun _ _ h => h)
    (fun _ _ _ _ h => h) (fun _ _ _ _ h => h) (fun _ _ _ _ _ h => h) len

/-- RECEIVE keeps Receive mode and enters it from any other (R173). -/
theorem receiveBody_mode {len : Byte} (h : receiveBody c len s = .ok r u) : u.mode = some .receive := by
  obtain ⟨hr, hw⟩ := ready_of_ok (i := .receive len) h
  have hl : 2 ≤ len.toNat := by simpa [Instr.wellFormed] using hw
  cases hm : s.mode with
  | none => simp [receiveBody, checkReady_of_ready hr, checkLen_of_le hl, demand_of_none hm] at h
  | some m =>
    by_cases hrx : m = .receive
    · exact (Keeps.receiveBody_inReceive len).of_ok (hm.trans (congrArg some hrx)) h
    · rw [receiveBody_of_other_mode hr hl hm hrx] at h
      cases h
      rfl

/-- GETACK enters Receive from Transmit where packet-sent is read set, and no other mode from anywhere (R174). -/
theorem getAckBody_mode {len : Byte} (h : getAckBody c len s = .ok r u) :
    u.mode = if s.mode = some .transmit ∧ packetSent c (s.answer 0) = true then some .receive else s.mode := by
  obtain ⟨hr, hw⟩ := ready_of_ok (i := .getAck len) h
  have hl : 2 ≤ len.toNat := by simpa [Instr.wellFormed] using hw
  cases hm : s.mode with
  | none => simp [getAckBody, checkReady_of_ready hr, checkLen_of_le hl, demand_of_none hm] at h
  | some m =>
    cases m with
    | sleep | standby | freqSynth =>
      rw [getAckBody_of_no_phase hr hl hm (by decide)] at h
      cases h
    | transmit =>
      cases hbit : packetSent c (s.answer 0) with
      | false =>
        rw [getAckBody_of_packet_not_sent hr hl hm hbit] at h
        cases h
        simpa using hm
      | true =>
        rw [getAckBody_of_packet_sent hr hl hm hbit] at h
        cases h
        rfl
    | receive =>
      have hkept : u.mode = some .receive := (Keeps.getAckBody_inReceive len).of_ok hm h
      simpa using hkept

/-- INIT records Sleep where it succeeds, and no mode where it fails (R104, R170). -/
theorem initBody_mode {id group : Byte} {freq : Hz32} (h : initBody c id group freq s = .ok r u) :
    u.mode = if u.linkState = .ready then some .sleep else s.mode := by
  by_cases hid : id.toNat ≤ 63
  · cases h1 : firstMatch nonce1 s 0 (nonceRetries c) with
    | none =>
      rw [initBody_of_first_absent hid group freq h1] at h
      cases h
      rfl
    | some j =>
      cases h2 : firstMatch nonce2 s (j + 1) (nonceRetries c) with
      | none =>
        rw [initBody_of_second_absent hid group freq h1 h2] at h
        cases h
        rfl
      | some k =>
        rw [initBody_of_present hid group freq h1 h2, initBringUp_apply] at h
        split_ifs at h
        cases h
        rfl
  · rw [initBody_of_id_out_of_range (not_le.1 hid)] at h
    cases h

end

/-- Settles O46: the five commands that write the mode one by one, and the others by what they survive. -/
theorem recordedModeFollowsTheTable : Obligations.RecordedModeFollowsTheTable := by
  intro s t i hexec ht
  obtain ⟨r, u, hu, rfl⟩ := body_of_no_fault hexec ht
  cases i with
  | init id group freq => exact initBody_mode (u := u) hu
  | sleep => exact sleepBody_mode s r u hu
  | send flags destId payload => exact sendBody_mode flags destId payload s r u hu
  | receive len => exact receiveBody_mode (u := u) hu
  | getAck len => exact getAckBody_mode (u := u) hu
  | _ => exact exec_mode_of_no_writer (by simp [Instr.opcode]) hexec

end Sys2Proof.Machine
